-- ==== Sys2Proof/Word.lean ====
section
/-! DEFINITION. The word types of the spec: `XLEN` = `ILEN` = `PCLEN` = 32 (00_scope.md R6), 8-bit predicate
values, and the 8- and 16-bit vector elements (00_scope.md R11). -/

namespace Sys2Proof

/-- A 32-bit vector: a general register, the program counter, an instruction word (R6). -/
abbrev Word := BitVec 32

/-- An 8-bit vector: a predicate value, a byte of the program text, a byte element (R6, R11). -/
abbrev Byte := BitVec 8

/-- A 16-bit vector: a halfword element (R11). -/
abbrev Half := BitVec 16

end Sys2Proof
end

