-- ==== Sys2Proof/Config.lean ====
section
/-! DEFINITION. What an implementation fixes (00_scope.md R6, the parameter table) and the values the model
starts its open parameters with. There is no free value: the spec resolves every undefined point to a
definite value, a stop or a parameter (93_implementation_defined.md, end of section 1). -/

namespace Sys2Proof.Config

/-- `PCALIGN_MASK` = 3 (10_state.md R27, D5). PRESUMED by the spec (general knowledge); it changes no result
of a well-formed instruction. Log 19. -/
def pcAlignMask : Word := 3#32

/-- `VLEN_BITS` at reset, in 32-bit words: 1024 bits, the spec's default (R6, R33, D14). Log 4. -/
def defaultVlenWords : Nat := 32

/-- `ENTRY_PC` of the reset state. DESIGN CHOICE (the spec gives no default, D12); unsafe. Log 2. -/
def defaultEntryPc : Word := 0x00000000#32

/-- `HALT_PC` of the reset state. DESIGN CHOICE (the spec gives no default, D24); unsafe. Log 3. -/
def defaultHaltPc : Word := 0xFFFFFFFC#32

/-- `ADMIT_UNSOURCED_ENCODINGS` at reset: the spec's default, false (R6, D32). Log 5. -/
def defaultAdmitUnsourced : Bool := false

end Sys2Proof.Config
end

