-- ==== Sys2Proof/Syntax.lean ====
section
/-! DEFINITION. The abstract syntax: one constructor of `Instr` for each of the 96 rows of
spec/opcode_table.json, in the table's order. A constructor's docstring gives the row's syntax (30_encoding.md
R87) and the rule of its meaning. Immediates stand as the VALUE the syntax denotes (00_scope.md R9): `off` is
the signed byte offset of `#r9:2` or `#r13:2`, `u` the value of `#U5`, `s16` that of `#s16`. -/

namespace Sys2Proof

/-- The number of a general register R0..R31 (10_state.md R20). PRESUMED count 32 (D8), log 13. -/
abbrev GReg := Fin 32

/-- The number of a predicate register P0..P3 (10_state.md R30). PRESUMED count 4 (D9), log 13. -/
abbrev PReg := Fin 4

/-- The number of an HVX vector register V0..V31 (10_state.md R33). PRESUMED count 32 (D14), log 13. -/
abbrev VReg := Fin 32

/-- The predicate a compare-and-jump writes: P0 or P1 and no other (40_compare_and_jump.md R100). -/
inductive CjPred where
  | p0
  | p1
deriving DecidableEq, Repr

/-- The number of the predicate register (R100). -/
def CjPred.reg : CjPred → PReg
  | .p0 => 0
  | .p1 => 1

/-- The sense of the jump condition, the manual's `[!]` (00_scope.md R10, R102). -/
inductive Sense where
  /-- `if (p.new)` -/
  | plain
  /-- `if (!p.new)` -/
  | inverted
deriving DecidableEq, Repr

/-- The hint `jump:nt` or `jump:t` (41_jump_on_register.md R150). It changes no result. -/
inductive Hint where
  | nt
  | t
deriving DecidableEq, Repr

/-- The instruction classes of the source (00_scope.md R2). -/
inductive InstrClass where
  | j
  | alu32
  | coprocVx
deriving DecidableEq, Repr

/-- The encoding formats of 30_encoding.md: R75, R76, R81, R82, R83 (two) and R85. -/
inductive Format where
  | cjN1
  | cjU5
  | cjRR
  | jr
  | addi
  | alu32Rrr
  | hvxUnknown
deriving DecidableEq, Repr

/-- The instructions: one constructor per row of spec/opcode_table.json. -/
inductive Instr where
  /-- `p0=cmp.eq(Rs,#-1); if (p0.new) jump:nt #r9:2` (R103) -/
  | p0CmpEqN1NewNt (rs : GReg) (off : Int)
  /-- `p0=cmp.eq(Rs,#-1); if (p0.new) jump:t #r9:2` (R103) -/
  | p0CmpEqN1NewT (rs : GReg) (off : Int)
  /-- `p0=cmp.eq(Rs,#-1); if (!p0.new) jump:nt #r9:2` (R103) -/
  | p0CmpEqN1NotNewNt (rs : GReg) (off : Int)
  /-- `p0=cmp.eq(Rs,#-1); if (!p0.new) jump:t #r9:2` (R103) -/
  | p0CmpEqN1NotNewT (rs : GReg) (off : Int)
  /-- `p1=cmp.eq(Rs,#-1); if (p1.new) jump:nt #r9:2` (R103) -/
  | p1CmpEqN1NewNt (rs : GReg) (off : Int)
  /-- `p1=cmp.eq(Rs,#-1); if (p1.new) jump:t #r9:2` (R103) -/
  | p1CmpEqN1NewT (rs : GReg) (off : Int)
  /-- `p1=cmp.eq(Rs,#-1); if (!p1.new) jump:nt #r9:2` (R103) -/
  | p1CmpEqN1NotNewNt (rs : GReg) (off : Int)
  /-- `p1=cmp.eq(Rs,#-1); if (!p1.new) jump:t #r9:2` (R103) -/
  | p1CmpEqN1NotNewT (rs : GReg) (off : Int)
  /-- `p0=cmp.eq(Rs,#U5); if (p0.new) jump:nt #r9:2` (R104) -/
  | p0CmpEqU5NewNt (rs : GReg) (u : Nat) (off : Int)
  /-- `p0=cmp.eq(Rs,#U5); if (p0.new) jump:t #r9:2` (R104) -/
  | p0CmpEqU5NewT (rs : GReg) (u : Nat) (off : Int)
  /-- `p0=cmp.eq(Rs,#U5); if (!p0.new) jump:nt #r9:2` (R104) -/
  | p0CmpEqU5NotNewNt (rs : GReg) (u : Nat) (off : Int)
  /-- `p0=cmp.eq(Rs,#U5); if (!p0.new) jump:t #r9:2` (R104) -/
  | p0CmpEqU5NotNewT (rs : GReg) (u : Nat) (off : Int)
  /-- `p1=cmp.eq(Rs,#U5); if (p1.new) jump:nt #r9:2` (R104) -/
  | p1CmpEqU5NewNt (rs : GReg) (u : Nat) (off : Int)
  /-- `p1=cmp.eq(Rs,#U5); if (p1.new) jump:t #r9:2` (R104) -/
  | p1CmpEqU5NewT (rs : GReg) (u : Nat) (off : Int)
  /-- `p1=cmp.eq(Rs,#U5); if (!p1.new) jump:nt #r9:2` (R104) -/
  | p1CmpEqU5NotNewNt (rs : GReg) (u : Nat) (off : Int)
  /-- `p1=cmp.eq(Rs,#U5); if (!p1.new) jump:t #r9:2` (R104) -/
  | p1CmpEqU5NotNewT (rs : GReg) (u : Nat) (off : Int)
  /-- `p0=cmp.eq(Rs,Rt); if (p0.new) jump:nt #r9:2` (R105) -/
  | p0CmpEqRRNewNt (rs : GReg) (rt : GReg) (off : Int)
  /-- `p0=cmp.eq(Rs,Rt); if (p0.new) jump:t #r9:2` (R105) -/
  | p0CmpEqRRNewT (rs : GReg) (rt : GReg) (off : Int)
  /-- `p0=cmp.eq(Rs,Rt); if (!p0.new) jump:nt #r9:2` (R105) -/
  | p0CmpEqRRNotNewNt (rs : GReg) (rt : GReg) (off : Int)
  /-- `p0=cmp.eq(Rs,Rt); if (!p0.new) jump:t #r9:2` (R105) -/
  | p0CmpEqRRNotNewT (rs : GReg) (rt : GReg) (off : Int)
  /-- `p1=cmp.eq(Rs,Rt); if (p1.new) jump:nt #r9:2` (R105) -/
  | p1CmpEqRRNewNt (rs : GReg) (rt : GReg) (off : Int)
  /-- `p1=cmp.eq(Rs,Rt); if (p1.new) jump:t #r9:2` (R105) -/
  | p1CmpEqRRNewT (rs : GReg) (rt : GReg) (off : Int)
  /-- `p1=cmp.eq(Rs,Rt); if (!p1.new) jump:nt #r9:2` (R105) -/
  | p1CmpEqRRNotNewNt (rs : GReg) (rt : GReg) (off : Int)
  /-- `p1=cmp.eq(Rs,Rt); if (!p1.new) jump:t #r9:2` (R105) -/
  | p1CmpEqRRNotNewT (rs : GReg) (rt : GReg) (off : Int)
  /-- `p0=cmp.gt(Rs,#-1); if (p0.new) jump:nt #r9:2` (R106) -/
  | p0CmpGtN1NewNt (rs : GReg) (off : Int)
  /-- `p0=cmp.gt(Rs,#-1); if (p0.new) jump:t #r9:2` (R106) -/
  | p0CmpGtN1NewT (rs : GReg) (off : Int)
  /-- `p0=cmp.gt(Rs,#-1); if (!p0.new) jump:nt #r9:2` (R106) -/
  | p0CmpGtN1NotNewNt (rs : GReg) (off : Int)
  /-- `p0=cmp.gt(Rs,#-1); if (!p0.new) jump:t #r9:2` (R106) -/
  | p0CmpGtN1NotNewT (rs : GReg) (off : Int)
  /-- `p1=cmp.gt(Rs,#-1); if (p1.new) jump:nt #r9:2` (R106) -/
  | p1CmpGtN1NewNt (rs : GReg) (off : Int)
  /-- `p1=cmp.gt(Rs,#-1); if (p1.new) jump:t #r9:2` (R106) -/
  | p1CmpGtN1NewT (rs : GReg) (off : Int)
  /-- `p1=cmp.gt(Rs,#-1); if (!p1.new) jump:nt #r9:2` (R106) -/
  | p1CmpGtN1NotNewNt (rs : GReg) (off : Int)
  /-- `p1=cmp.gt(Rs,#-1); if (!p1.new) jump:t #r9:2` (R106) -/
  | p1CmpGtN1NotNewT (rs : GReg) (off : Int)
  /-- `p0=cmp.gt(Rs,#U5); if (p0.new) jump:nt #r9:2` (R107) -/
  | p0CmpGtU5NewNt (rs : GReg) (u : Nat) (off : Int)
  /-- `p0=cmp.gt(Rs,#U5); if (p0.new) jump:t #r9:2` (R107) -/
  | p0CmpGtU5NewT (rs : GReg) (u : Nat) (off : Int)
  /-- `p0=cmp.gt(Rs,#U5); if (!p0.new) jump:nt #r9:2` (R107) -/
  | p0CmpGtU5NotNewNt (rs : GReg) (u : Nat) (off : Int)
  /-- `p0=cmp.gt(Rs,#U5); if (!p0.new) jump:t #r9:2` (R107) -/
  | p0CmpGtU5NotNewT (rs : GReg) (u : Nat) (off : Int)
  /-- `p1=cmp.gt(Rs,#U5); if (p1.new) jump:nt #r9:2` (R107) -/
  | p1CmpGtU5NewNt (rs : GReg) (u : Nat) (off : Int)
  /-- `p1=cmp.gt(Rs,#U5); if (p1.new) jump:t #r9:2` (R107) -/
  | p1CmpGtU5NewT (rs : GReg) (u : Nat) (off : Int)
  /-- `p1=cmp.gt(Rs,#U5); if (!p1.new) jump:nt #r9:2` (R107) -/
  | p1CmpGtU5NotNewNt (rs : GReg) (u : Nat) (off : Int)
  /-- `p1=cmp.gt(Rs,#U5); if (!p1.new) jump:t #r9:2` (R107) -/
  | p1CmpGtU5NotNewT (rs : GReg) (u : Nat) (off : Int)
  /-- `p0=cmp.gt(Rs,Rt); if (p0.new) jump:nt #r9:2` (R108) -/
  | p0CmpGtRRNewNt (rs : GReg) (rt : GReg) (off : Int)
  /-- `p0=cmp.gt(Rs,Rt); if (p0.new) jump:t #r9:2` (R108) -/
  | p0CmpGtRRNewT (rs : GReg) (rt : GReg) (off : Int)
  /-- `p0=cmp.gt(Rs,Rt); if (!p0.new) jump:nt #r9:2` (R108) -/
  | p0CmpGtRRNotNewNt (rs : GReg) (rt : GReg) (off : Int)
  /-- `p0=cmp.gt(Rs,Rt); if (!p0.new) jump:t #r9:2` (R108) -/
  | p0CmpGtRRNotNewT (rs : GReg) (rt : GReg) (off : Int)
  /-- `p1=cmp.gt(Rs,Rt); if (p1.new) jump:nt #r9:2` (R108) -/
  | p1CmpGtRRNewNt (rs : GReg) (rt : GReg) (off : Int)
  /-- `p1=cmp.gt(Rs,Rt); if (p1.new) jump:t #r9:2` (R108) -/
  | p1CmpGtRRNewT (rs : GReg) (rt : GReg) (off : Int)
  /-- `p1=cmp.gt(Rs,Rt); if (!p1.new) jump:nt #r9:2` (R108) -/
  | p1CmpGtRRNotNewNt (rs : GReg) (rt : GReg) (off : Int)
  /-- `p1=cmp.gt(Rs,Rt); if (!p1.new) jump:t #r9:2` (R108) -/
  | p1CmpGtRRNotNewT (rs : GReg) (rt : GReg) (off : Int)
  /-- `p0=cmp.gtu(Rs,#U5); if (p0.new) jump:nt #r9:2` (R109) -/
  | p0CmpGtuU5NewNt (rs : GReg) (u : Nat) (off : Int)
  /-- `p0=cmp.gtu(Rs,#U5); if (p0.new) jump:t #r9:2` (R109) -/
  | p0CmpGtuU5NewT (rs : GReg) (u : Nat) (off : Int)
  /-- `p0=cmp.gtu(Rs,#U5); if (!p0.new) jump:nt #r9:2` (R109) -/
  | p0CmpGtuU5NotNewNt (rs : GReg) (u : Nat) (off : Int)
  /-- `p0=cmp.gtu(Rs,#U5); if (!p0.new) jump:t #r9:2` (R109) -/
  | p0CmpGtuU5NotNewT (rs : GReg) (u : Nat) (off : Int)
  /-- `p1=cmp.gtu(Rs,#U5); if (p1.new) jump:nt #r9:2` (R109) -/
  | p1CmpGtuU5NewNt (rs : GReg) (u : Nat) (off : Int)
  /-- `p1=cmp.gtu(Rs,#U5); if (p1.new) jump:t #r9:2` (R109) -/
  | p1CmpGtuU5NewT (rs : GReg) (u : Nat) (off : Int)
  /-- `p1=cmp.gtu(Rs,#U5); if (!p1.new) jump:nt #r9:2` (R109) -/
  | p1CmpGtuU5NotNewNt (rs : GReg) (u : Nat) (off : Int)
  /-- `p1=cmp.gtu(Rs,#U5); if (!p1.new) jump:t #r9:2` (R109) -/
  | p1CmpGtuU5NotNewT (rs : GReg) (u : Nat) (off : Int)
  /-- `p0=cmp.gtu(Rs,Rt); if (p0.new) jump:nt #r9:2` (R110) -/
  | p0CmpGtuRRNewNt (rs : GReg) (rt : GReg) (off : Int)
  /-- `p0=cmp.gtu(Rs,Rt); if (p0.new) jump:t #r9:2` (R110) -/
  | p0CmpGtuRRNewT (rs : GReg) (rt : GReg) (off : Int)
  /-- `p0=cmp.gtu(Rs,Rt); if (!p0.new) jump:nt #r9:2` (R110) -/
  | p0CmpGtuRRNotNewNt (rs : GReg) (rt : GReg) (off : Int)
  /-- `p0=cmp.gtu(Rs,Rt); if (!p0.new) jump:t #r9:2` (R110) -/
  | p0CmpGtuRRNotNewT (rs : GReg) (rt : GReg) (off : Int)
  /-- `p1=cmp.gtu(Rs,Rt); if (p1.new) jump:nt #r9:2` (R110) -/
  | p1CmpGtuRRNewNt (rs : GReg) (rt : GReg) (off : Int)
  /-- `p1=cmp.gtu(Rs,Rt); if (p1.new) jump:t #r9:2` (R110) -/
  | p1CmpGtuRRNewT (rs : GReg) (rt : GReg) (off : Int)
  /-- `p1=cmp.gtu(Rs,Rt); if (!p1.new) jump:nt #r9:2` (R110) -/
  | p1CmpGtuRRNotNewNt (rs : GReg) (rt : GReg) (off : Int)
  /-- `p1=cmp.gtu(Rs,Rt); if (!p1.new) jump:t #r9:2` (R110) -/
  | p1CmpGtuRRNotNewT (rs : GReg) (rt : GReg) (off : Int)
  /-- `p0=tstbit(Rs,#0); if (p0.new) jump:nt #r9:2` (R111) -/
  | p0TstbitNewNt (rs : GReg) (off : Int)
  /-- `p0=tstbit(Rs,#0); if (p0.new) jump:t #r9:2` (R111) -/
  | p0TstbitNewT (rs : GReg) (off : Int)
  /-- `p0=tstbit(Rs,#0); if (!p0.new) jump:nt #r9:2` (R111) -/
  | p0TstbitNotNewNt (rs : GReg) (off : Int)
  /-- `p0=tstbit(Rs,#0); if (!p0.new) jump:t #r9:2` (R111) -/
  | p0TstbitNotNewT (rs : GReg) (off : Int)
  /-- `p1=tstbit(Rs,#0); if (p1.new) jump:nt #r9:2` (R111) -/
  | p1TstbitNewNt (rs : GReg) (off : Int)
  /-- `p1=tstbit(Rs,#0); if (p1.new) jump:t #r9:2` (R111) -/
  | p1TstbitNewT (rs : GReg) (off : Int)
  /-- `p1=tstbit(Rs,#0); if (!p1.new) jump:nt #r9:2` (R111) -/
  | p1TstbitNotNewNt (rs : GReg) (off : Int)
  /-- `p1=tstbit(Rs,#0); if (!p1.new) jump:t #r9:2` (R111) -/
  | p1TstbitNotNewT (rs : GReg) (off : Int)
  /-- `if (Rs!=#0) jump:nt #r13:2` (R142) -/
  | jumpNeNt (rs : GReg) (off : Int)
  /-- `if (Rs!=#0) jump:t #r13:2` (R143) -/
  | jumpNeT (rs : GReg) (off : Int)
  /-- `if (Rs<=#0) jump:nt #r13:2` (R144) -/
  | jumpLeNt (rs : GReg) (off : Int)
  /-- `if (Rs<=#0) jump:t #r13:2` (R145) -/
  | jumpLeT (rs : GReg) (off : Int)
  /-- `if (Rs==#0) jump:nt #r13:2` (R146) -/
  | jumpEqNt (rs : GReg) (off : Int)
  /-- `if (Rs==#0) jump:t #r13:2` (R147) -/
  | jumpEqT (rs : GReg) (off : Int)
  /-- `if (Rs>=#0) jump:nt #r13:2` (R148) -/
  | jumpGeNt (rs : GReg) (off : Int)
  /-- `if (Rs>=#0) jump:t #r13:2` (R149) -/
  | jumpGeT (rs : GReg) (off : Int)
  /-- `Rd=add(Rs,#s16)` (R191) -/
  | addImm (rd : GReg) (rs : GReg) (s16 : Int)
  /-- `Rd=add(Rs,Rt)` (R192) -/
  | addReg (rd : GReg) (rs : GReg) (rt : GReg)
  /-- `Rd=add(Rs,Rt):sat` (R193) -/
  | addRegSat (rd : GReg) (rs : GReg) (rt : GReg)
  /-- `Vd.b=vasr(Vu.h,Vv.h,Rt):sat` (R165) -/
  | vasrBHSat (vd : VReg) (vu : VReg) (vv : VReg) (rt : GReg)
  /-- `Vd.b=vasr(Vu.h,Vv.h,Rt):rnd:sat` (R166) -/
  | vasrBHRndSat (vd : VReg) (vu : VReg) (vv : VReg) (rt : GReg)
  /-- `Vd.h=vasr(Vu.w,Vv.w,Rt):rnd:sat` (R167) -/
  | vasrHWRndSat (vd : VReg) (vu : VReg) (vv : VReg) (rt : GReg)
  /-- `Vd.h=vasr(Vu.w,Vv.w,Rt)` (R168) -/
  | vasrHW (vd : VReg) (vu : VReg) (vv : VReg) (rt : GReg)
  /-- `Vd.h=vasr(Vu.w,Vv.w,Rt):sat` (R169) -/
  | vasrHWSat (vd : VReg) (vu : VReg) (vv : VReg) (rt : GReg)
  /-- `Vd.ub=vasr(Vu.h,Vv.h,Rt):sat` (R170) -/
  | vasrUbHSat (vd : VReg) (vu : VReg) (vv : VReg) (rt : GReg)
  /-- `Vd.ub=vasr(Vu.h,Vv.h,Rt):rnd:sat` (R171) -/
  | vasrUbHRndSat (vd : VReg) (vu : VReg) (vv : VReg) (rt : GReg)
  /-- `Vd.ub=vasr(Vu.uh,Vv.uh,Rt):sat` (R172) -/
  | vasrUbUhSat (vd : VReg) (vu : VReg) (vv : VReg) (rt : GReg)
  /-- `Vd.ub=vasr(Vu.uh,Vv.uh,Rt):rnd:sat` (R173) -/
  | vasrUbUhRndSat (vd : VReg) (vu : VReg) (vv : VReg) (rt : GReg)
  /-- `Vd.uh=vasr(Vu.uw,Vv.uw,Rt):sat` (R174) -/
  | vasrUhUwSat (vd : VReg) (vu : VReg) (vv : VReg) (rt : GReg)
  /-- `Vd.uh=vasr(Vu.uw,Vv.uw,Rt):rnd:sat` (R175) -/
  | vasrUhUwRndSat (vd : VReg) (vu : VReg) (vv : VReg) (rt : GReg)
  /-- `Vd.uh=vasr(Vu.w,Vv.w,Rt):sat` (R176) -/
  | vasrUhWSat (vd : VReg) (vu : VReg) (vv : VReg) (rt : GReg)
  /-- `Vd.uh=vasr(Vu.w,Vv.w,Rt):rnd:sat` (R177) -/
  | vasrUhWRndSat (vd : VReg) (vu : VReg) (vv : VReg) (rt : GReg)
deriving DecidableEq, Repr

/-! The eight variants of a compare-and-jump operation, and the two of a jump on register, as one family each
(40_compare_and_jump.md R103-R111, 41_jump_on_register.md R142-R149): names for existing constructors. -/

/-- The 8 variants of `p[01]=cmp.eq(Rs,#-1); if ([!]p[01].new) jump:<hint> #r9:2` (R103). -/
def Instr.cmpEqN1 (d : CjPred) (n : Sense) (h : Hint) (rs : GReg) (off : Int) : Instr :=
  match d, n, h with
  | .p0, .plain, .nt => .p0CmpEqN1NewNt rs off
  | .p0, .plain, .t => .p0CmpEqN1NewT rs off
  | .p0, .inverted, .nt => .p0CmpEqN1NotNewNt rs off
  | .p0, .inverted, .t => .p0CmpEqN1NotNewT rs off
  | .p1, .plain, .nt => .p1CmpEqN1NewNt rs off
  | .p1, .plain, .t => .p1CmpEqN1NewT rs off
  | .p1, .inverted, .nt => .p1CmpEqN1NotNewNt rs off
  | .p1, .inverted, .t => .p1CmpEqN1NotNewT rs off

/-- The 8 variants of `p[01]=cmp.eq(Rs,#U5); if ([!]p[01].new) jump:<hint> #r9:2` (R104). -/
def Instr.cmpEqU5 (d : CjPred) (n : Sense) (h : Hint) (rs : GReg) (u : Nat) (off : Int) : Instr :=
  match d, n, h with
  | .p0, .plain, .nt => .p0CmpEqU5NewNt rs u off
  | .p0, .plain, .t => .p0CmpEqU5NewT rs u off
  | .p0, .inverted, .nt => .p0CmpEqU5NotNewNt rs u off
  | .p0, .inverted, .t => .p0CmpEqU5NotNewT rs u off
  | .p1, .plain, .nt => .p1CmpEqU5NewNt rs u off
  | .p1, .plain, .t => .p1CmpEqU5NewT rs u off
  | .p1, .inverted, .nt => .p1CmpEqU5NotNewNt rs u off
  | .p1, .inverted, .t => .p1CmpEqU5NotNewT rs u off

/-- The 8 variants of `p[01]=cmp.eq(Rs,Rt); if ([!]p[01].new) jump:<hint> #r9:2` (R105). -/
def Instr.cmpEqRR (d : CjPred) (n : Sense) (h : Hint) (rs : GReg) (rt : GReg) (off : Int) : Instr :=
  match d, n, h with
  | .p0, .plain, .nt => .p0CmpEqRRNewNt rs rt off
  | .p0, .plain, .t => .p0CmpEqRRNewT rs rt off
  | .p0, .inverted, .nt => .p0CmpEqRRNotNewNt rs rt off
  | .p0, .inverted, .t => .p0CmpEqRRNotNewT rs rt off
  | .p1, .plain, .nt => .p1CmpEqRRNewNt rs rt off
  | .p1, .plain, .t => .p1CmpEqRRNewT rs rt off
  | .p1, .inverted, .nt => .p1CmpEqRRNotNewNt rs rt off
  | .p1, .inverted, .t => .p1CmpEqRRNotNewT rs rt off

/-- The 8 variants of `p[01]=cmp.gt(Rs,#-1); if ([!]p[01].new) jump:<hint> #r9:2` (R106). -/
def Instr.cmpGtN1 (d : CjPred) (n : Sense) (h : Hint) (rs : GReg) (off : Int) : Instr :=
  match d, n, h with
  | .p0, .plain, .nt => .p0CmpGtN1NewNt rs off
  | .p0, .plain, .t => .p0CmpGtN1NewT rs off
  | .p0, .inverted, .nt => .p0CmpGtN1NotNewNt rs off
  | .p0, .inverted, .t => .p0CmpGtN1NotNewT rs off
  | .p1, .plain, .nt => .p1CmpGtN1NewNt rs off
  | .p1, .plain, .t => .p1CmpGtN1NewT rs off
  | .p1, .inverted, .nt => .p1CmpGtN1NotNewNt rs off
  | .p1, .inverted, .t => .p1CmpGtN1NotNewT rs off

/-- The 8 variants of `p[01]=cmp.gt(Rs,#U5); if ([!]p[01].new) jump:<hint> #r9:2` (R107). -/
def Instr.cmpGtU5 (d : CjPred) (n : Sense) (h : Hint) (rs : GReg) (u : Nat) (off : Int) : Instr :=
  match d, n, h with
  | .p0, .plain, .nt => .p0CmpGtU5NewNt rs u off
  | .p0, .plain, .t => .p0CmpGtU5NewT rs u off
  | .p0, .inverted, .nt => .p0CmpGtU5NotNewNt rs u off
  | .p0, .inverted, .t => .p0CmpGtU5NotNewT rs u off
  | .p1, .plain, .nt => .p1CmpGtU5NewNt rs u off
  | .p1, .plain, .t => .p1CmpGtU5NewT rs u off
  | .p1, .inverted, .nt => .p1CmpGtU5NotNewNt rs u off
  | .p1, .inverted, .t => .p1CmpGtU5NotNewT rs u off

/-- The 8 variants of `p[01]=cmp.gt(Rs,Rt); if ([!]p[01].new) jump:<hint> #r9:2` (R108). -/
def Instr.cmpGtRR (d : CjPred) (n : Sense) (h : Hint) (rs : GReg) (rt : GReg) (off : Int) : Instr :=
  match d, n, h with
  | .p0, .plain, .nt => .p0CmpGtRRNewNt rs rt off
  | .p0, .plain, .t => .p0CmpGtRRNewT rs rt off
  | .p0, .inverted, .nt => .p0CmpGtRRNotNewNt rs rt off
  | .p0, .inverted, .t => .p0CmpGtRRNotNewT rs rt off
  | .p1, .plain, .nt => .p1CmpGtRRNewNt rs rt off
  | .p1, .plain, .t => .p1CmpGtRRNewT rs rt off
  | .p1, .inverted, .nt => .p1CmpGtRRNotNewNt rs rt off
  | .p1, .inverted, .t => .p1CmpGtRRNotNewT rs rt off

/-- The 8 variants of `p[01]=cmp.gtu(Rs,#U5); if ([!]p[01].new) jump:<hint> #r9:2` (R109). -/
def Instr.cmpGtuU5 (d : CjPred) (n : Sense) (h : Hint) (rs : GReg) (u : Nat) (off : Int) : Instr :=
  match d, n, h with
  | .p0, .plain, .nt => .p0CmpGtuU5NewNt rs u off
  | .p0, .plain, .t => .p0CmpGtuU5NewT rs u off
  | .p0, .inverted, .nt => .p0CmpGtuU5NotNewNt rs u off
  | .p0, .inverted, .t => .p0CmpGtuU5NotNewT rs u off
  | .p1, .plain, .nt => .p1CmpGtuU5NewNt rs u off
  | .p1, .plain, .t => .p1CmpGtuU5NewT rs u off
  | .p1, .inverted, .nt => .p1CmpGtuU5NotNewNt rs u off
  | .p1, .inverted, .t => .p1CmpGtuU5NotNewT rs u off

/-- The 8 variants of `p[01]=cmp.gtu(Rs,Rt); if ([!]p[01].new) jump:<hint> #r9:2` (R110). -/
def Instr.cmpGtuRR (d : CjPred) (n : Sense) (h : Hint) (rs : GReg) (rt : GReg) (off : Int) : Instr :=
  match d, n, h with
  | .p0, .plain, .nt => .p0CmpGtuRRNewNt rs rt off
  | .p0, .plain, .t => .p0CmpGtuRRNewT rs rt off
  | .p0, .inverted, .nt => .p0CmpGtuRRNotNewNt rs rt off
  | .p0, .inverted, .t => .p0CmpGtuRRNotNewT rs rt off
  | .p1, .plain, .nt => .p1CmpGtuRRNewNt rs rt off
  | .p1, .plain, .t => .p1CmpGtuRRNewT rs rt off
  | .p1, .inverted, .nt => .p1CmpGtuRRNotNewNt rs rt off
  | .p1, .inverted, .t => .p1CmpGtuRRNotNewT rs rt off

/-- The 8 variants of `p[01]=tstbit(Rs,#0); if ([!]p[01].new) jump:<hint> #r9:2` (R111). -/
def Instr.tstbit (d : CjPred) (n : Sense) (h : Hint) (rs : GReg) (off : Int) : Instr :=
  match d, n, h with
  | .p0, .plain, .nt => .p0TstbitNewNt rs off
  | .p0, .plain, .t => .p0TstbitNewT rs off
  | .p0, .inverted, .nt => .p0TstbitNotNewNt rs off
  | .p0, .inverted, .t => .p0TstbitNotNewT rs off
  | .p1, .plain, .nt => .p1TstbitNewNt rs off
  | .p1, .plain, .t => .p1TstbitNewT rs off
  | .p1, .inverted, .nt => .p1TstbitNotNewNt rs off
  | .p1, .inverted, .t => .p1TstbitNotNewT rs off

/-- The 2 hint variants of `if (Rs!=#0) jump:<hint> #r13:2` (R142, R143). -/
def Instr.jumpNe (h : Hint) (rs : GReg) (off : Int) : Instr :=
  match h with
  | .nt => .jumpNeNt rs off
  | .t => .jumpNeT rs off

/-- The 2 hint variants of `if (Rs<=#0) jump:<hint> #r13:2` (R144, R145). -/
def Instr.jumpLe (h : Hint) (rs : GReg) (off : Int) : Instr :=
  match h with
  | .nt => .jumpLeNt rs off
  | .t => .jumpLeT rs off

/-- The 2 hint variants of `if (Rs==#0) jump:<hint> #r13:2` (R146, R147). -/
def Instr.jumpEq (h : Hint) (rs : GReg) (off : Int) : Instr :=
  match h with
  | .nt => .jumpEqNt rs off
  | .t => .jumpEqT rs off

/-- The 2 hint variants of `if (Rs>=#0) jump:<hint> #r13:2` (R148, R149). -/
def Instr.jumpGe (h : Hint) (rs : GReg) (off : Int) : Instr :=
  match h with
  | .nt => .jumpGeNt rs off
  | .t => .jumpGeT rs off

/-- The encoding format of an instruction (30_encoding.md; key `format` of spec/opcode_table.json). -/
def Instr.format : Instr → Format
  | .p0CmpEqN1NewNt _ _
  | .p0CmpEqN1NewT _ _
  | .p0CmpEqN1NotNewNt _ _
  | .p0CmpEqN1NotNewT _ _
  | .p1CmpEqN1NewNt _ _
  | .p1CmpEqN1NewT _ _
  | .p1CmpEqN1NotNewNt _ _
  | .p1CmpEqN1NotNewT _ _
  | .p0CmpGtN1NewNt _ _
  | .p0CmpGtN1NewT _ _
  | .p0CmpGtN1NotNewNt _ _
  | .p0CmpGtN1NotNewT _ _
  | .p1CmpGtN1NewNt _ _
  | .p1CmpGtN1NewT _ _
  | .p1CmpGtN1NotNewNt _ _
  | .p1CmpGtN1NotNewT _ _
  | .p0TstbitNewNt _ _
  | .p0TstbitNewT _ _
  | .p0TstbitNotNewNt _ _
  | .p0TstbitNotNewT _ _
  | .p1TstbitNewNt _ _
  | .p1TstbitNewT _ _
  | .p1TstbitNotNewNt _ _
  | .p1TstbitNotNewT _ _ => .cjN1
  | .p0CmpEqU5NewNt _ _ _
  | .p0CmpEqU5NewT _ _ _
  | .p0CmpEqU5NotNewNt _ _ _
  | .p0CmpEqU5NotNewT _ _ _
  | .p1CmpEqU5NewNt _ _ _
  | .p1CmpEqU5NewT _ _ _
  | .p1CmpEqU5NotNewNt _ _ _
  | .p1CmpEqU5NotNewT _ _ _
  | .p0CmpGtU5NewNt _ _ _
  | .p0CmpGtU5NewT _ _ _
  | .p0CmpGtU5NotNewNt _ _ _
  | .p0CmpGtU5NotNewT _ _ _
  | .p1CmpGtU5NewNt _ _ _
  | .p1CmpGtU5NewT _ _ _
  | .p1CmpGtU5NotNewNt _ _ _
  | .p1CmpGtU5NotNewT _ _ _
  | .p0CmpGtuU5NewNt _ _ _
  | .p0CmpGtuU5NewT _ _ _
  | .p0CmpGtuU5NotNewNt _ _ _
  | .p0CmpGtuU5NotNewT _ _ _
  | .p1CmpGtuU5NewNt _ _ _
  | .p1CmpGtuU5NewT _ _ _
  | .p1CmpGtuU5NotNewNt _ _ _
  | .p1CmpGtuU5NotNewT _ _ _ => .cjU5
  | .p0CmpEqRRNewNt _ _ _
  | .p0CmpEqRRNewT _ _ _
  | .p0CmpEqRRNotNewNt _ _ _
  | .p0CmpEqRRNotNewT _ _ _
  | .p1CmpEqRRNewNt _ _ _
  | .p1CmpEqRRNewT _ _ _
  | .p1CmpEqRRNotNewNt _ _ _
  | .p1CmpEqRRNotNewT _ _ _
  | .p0CmpGtRRNewNt _ _ _
  | .p0CmpGtRRNewT _ _ _
  | .p0CmpGtRRNotNewNt _ _ _
  | .p0CmpGtRRNotNewT _ _ _
  | .p1CmpGtRRNewNt _ _ _
  | .p1CmpGtRRNewT _ _ _
  | .p1CmpGtRRNotNewNt _ _ _
  | .p1CmpGtRRNotNewT _ _ _
  | .p0CmpGtuRRNewNt _ _ _
  | .p0CmpGtuRRNewT _ _ _
  | .p0CmpGtuRRNotNewNt _ _ _
  | .p0CmpGtuRRNotNewT _ _ _
  | .p1CmpGtuRRNewNt _ _ _
  | .p1CmpGtuRRNewT _ _ _
  | .p1CmpGtuRRNotNewNt _ _ _
  | .p1CmpGtuRRNotNewT _ _ _ => .cjRR
  | .jumpNeNt _ _
  | .jumpNeT _ _
  | .jumpLeNt _ _
  | .jumpLeT _ _
  | .jumpEqNt _ _
  | .jumpEqT _ _
  | .jumpGeNt _ _
  | .jumpGeT _ _ => .jr
  | .addImm _ _ _ => .addi
  | .addReg _ _ _
  | .addRegSat _ _ _ => .alu32Rrr
  | .vasrBHSat _ _ _ _
  | .vasrBHRndSat _ _ _ _
  | .vasrHWRndSat _ _ _ _
  | .vasrHW _ _ _ _
  | .vasrHWSat _ _ _ _
  | .vasrUbHSat _ _ _ _
  | .vasrUbHRndSat _ _ _ _
  | .vasrUbUhSat _ _ _ _
  | .vasrUbUhRndSat _ _ _ _
  | .vasrUhUwSat _ _ _ _
  | .vasrUhUwRndSat _ _ _ _
  | .vasrUhWSat _ _ _ _
  | .vasrUhWRndSat _ _ _ _ => .hvxUnknown

/-- The class printed on the instruction's `Class:` line (R2, R112, R151, R179, R195). Recorded; it changes nothing (D23). -/
def Instr.cls (i : Instr) : InstrClass :=
  match i.format with
  | .cjN1 | .cjU5 | .cjRR | .jr => .j
  | .addi | .alu32Rrr => .alu32
  | .hvxUnknown => .coprocVx

/-- The instruction is one of the 72 compare-and-jumps (R100). -/
def Instr.isCompareJump (i : Instr) : Bool :=
  match i.format with
  | .cjN1 | .cjU5 | .cjRR => true
  | .jr | .addi | .alu32Rrr | .hvxUnknown => false

/-- The slots of the `Class:` line: slot 3 alone for jump on register (R151), any slot otherwise (R112, R179, R195).
Recorded; a one-instruction packet is constrained by none of it (D23). -/
def Instr.slots (i : Instr) : List Nat :=
  match i.format with
  | .jr => [3]
  | .cjN1 | .cjU5 | .cjRR | .addi | .alu32Rrr | .hvxUnknown => [0, 1, 2, 3]

end Sys2Proof
end

