-- ==== Sys2Proof/WellFormed.lean ====
section
/-! DEFINITION. Which instruction terms the manual's syntax and the encoding's fields admit: the operand checks of
40_compare_and_jump.md R100, 41_jump_on_register.md R140, 43_alu32_add.md R191 and 70_reset_and_hazards.md R223.
Register numbers are bounded by their types. -/

namespace Sys2Proof

/-- "The registers available as operands are restricted to R0-R7 and R16-R23" (R100, R21). -/
def cjRegOk (r : GReg) : Bool := decide (r.val < 8) || (decide (16 ≤ r.val) && decide (r.val < 24))

/-- `#r9:2`: a multiple of 4 in -1024..+1020 (R9, R79, R100). -/
def r9Ok (off : Int) : Bool := decide (off % 4 = 0) && (decide (-1024 ≤ off) && decide (off ≤ 1020))

/-- `#r13:2`: a multiple of 4 in -16384..+16380 (R9, R82, R140). -/
def r13Ok (off : Int) : Bool := decide (off % 4 = 0) && (decide (-16384 ≤ off) && decide (off ≤ 16380))

/-- `#U5`: 0..31 (R80, R100). -/
def u5Ok (u : Nat) : Bool := decide (u < 32)

/-- `#s16`: -32768..32767 (R191). -/
def s16Ok (s16 : Int) : Bool := decide (-32768 ≤ s16) && decide (s16 ≤ 32767)

/-- The operands are ones the manual's syntax and the encoding's fields can express. -/
def Instr.wf : Instr → Bool
  | .p0CmpEqN1NewNt rs off
  | .p0CmpEqN1NewT rs off
  | .p0CmpEqN1NotNewNt rs off
  | .p0CmpEqN1NotNewT rs off
  | .p1CmpEqN1NewNt rs off
  | .p1CmpEqN1NewT rs off
  | .p1CmpEqN1NotNewNt rs off
  | .p1CmpEqN1NotNewT rs off
  | .p0CmpGtN1NewNt rs off
  | .p0CmpGtN1NewT rs off
  | .p0CmpGtN1NotNewNt rs off
  | .p0CmpGtN1NotNewT rs off
  | .p1CmpGtN1NewNt rs off
  | .p1CmpGtN1NewT rs off
  | .p1CmpGtN1NotNewNt rs off
  | .p1CmpGtN1NotNewT rs off
  | .p0TstbitNewNt rs off
  | .p0TstbitNewT rs off
  | .p0TstbitNotNewNt rs off
  | .p0TstbitNotNewT rs off
  | .p1TstbitNewNt rs off
  | .p1TstbitNewT rs off
  | .p1TstbitNotNewNt rs off
  | .p1TstbitNotNewT rs off => cjRegOk rs && r9Ok off
  | .p0CmpEqU5NewNt rs u off
  | .p0CmpEqU5NewT rs u off
  | .p0CmpEqU5NotNewNt rs u off
  | .p0CmpEqU5NotNewT rs u off
  | .p1CmpEqU5NewNt rs u off
  | .p1CmpEqU5NewT rs u off
  | .p1CmpEqU5NotNewNt rs u off
  | .p1CmpEqU5NotNewT rs u off
  | .p0CmpGtU5NewNt rs u off
  | .p0CmpGtU5NewT rs u off
  | .p0CmpGtU5NotNewNt rs u off
  | .p0CmpGtU5NotNewT rs u off
  | .p1CmpGtU5NewNt rs u off
  | .p1CmpGtU5NewT rs u off
  | .p1CmpGtU5NotNewNt rs u off
  | .p1CmpGtU5NotNewT rs u off
  | .p0CmpGtuU5NewNt rs u off
  | .p0CmpGtuU5NewT rs u off
  | .p0CmpGtuU5NotNewNt rs u off
  | .p0CmpGtuU5NotNewT rs u off
  | .p1CmpGtuU5NewNt rs u off
  | .p1CmpGtuU5NewT rs u off
  | .p1CmpGtuU5NotNewNt rs u off
  | .p1CmpGtuU5NotNewT rs u off => cjRegOk rs && u5Ok u && r9Ok off
  | .p0CmpEqRRNewNt rs rt off
  | .p0CmpEqRRNewT rs rt off
  | .p0CmpEqRRNotNewNt rs rt off
  | .p0CmpEqRRNotNewT rs rt off
  | .p1CmpEqRRNewNt rs rt off
  | .p1CmpEqRRNewT rs rt off
  | .p1CmpEqRRNotNewNt rs rt off
  | .p1CmpEqRRNotNewT rs rt off
  | .p0CmpGtRRNewNt rs rt off
  | .p0CmpGtRRNewT rs rt off
  | .p0CmpGtRRNotNewNt rs rt off
  | .p0CmpGtRRNotNewT rs rt off
  | .p1CmpGtRRNewNt rs rt off
  | .p1CmpGtRRNewT rs rt off
  | .p1CmpGtRRNotNewNt rs rt off
  | .p1CmpGtRRNotNewT rs rt off
  | .p0CmpGtuRRNewNt rs rt off
  | .p0CmpGtuRRNewT rs rt off
  | .p0CmpGtuRRNotNewNt rs rt off
  | .p0CmpGtuRRNotNewT rs rt off
  | .p1CmpGtuRRNewNt rs rt off
  | .p1CmpGtuRRNewT rs rt off
  | .p1CmpGtuRRNotNewNt rs rt off
  | .p1CmpGtuRRNotNewT rs rt off => cjRegOk rs && cjRegOk rt && r9Ok off
  | .jumpNeNt _ off
  | .jumpNeT _ off
  | .jumpLeNt _ off
  | .jumpLeT _ off
  | .jumpEqNt _ off
  | .jumpEqT _ off
  | .jumpGeNt _ off
  | .jumpGeT _ off => r13Ok off
  | .addImm _ _ s16 => s16Ok s16
  | .addReg _ _ _
  | .addRegSat _ _ _ => true
  | .vasrBHSat _ _ _ _
  | .vasrBHRndSat _ _ _ _
  | .vasrHWRndSat _ _ _ _
  | .vasrHW _ _ _ _
  | .vasrHWSat _ _ _ _
  | .vasrUbHSat _ _ _ _
  | .vasrUbHRndSat _ _ _ _
  | .vasrUbUhSat _ _ _ _
  | .vasrUbUhRndSat _ _ _ _
  | .vasrUhUwSat _ _ _ _
  | .vasrUhUwRndSat _ _ _ _
  | .vasrUhWSat _ _ _ _
  | .vasrUhWRndSat _ _ _ _ => true

end Sys2Proof
end

