-- ==== Sys2Proof/Decode.lean ====
section
/-! DEFINITION. Decoding a 32-bit instruction word by the rows of spec/opcode_table.json (30_encoding.md R70-R86), and
after it the encoder written from the same tables. Decoding is total: a word is an instruction or is rejected by name.
The switch `ADMIT_UNSOURCED_ENCODINGS` (R86 step 4) is applied where an instruction is fetched (Machine/Fetch.lean),
from the provenance of the row the word selects. -/

namespace Sys2Proof

/-! ## Bytes of a word -/

/-- The word whose bytes, lowest address first, are `b0 b1 b2 b3`: little-endian (20_memory.md R53). PRESUMED (D3), log 7. -/
def wordOfBytes (b0 b1 b2 b3 : Byte) : Word := b3 ++ b2 ++ b1 ++ b0

/-- Byte `k` (0..3) of a word in the order of `wordOfBytes` (R53). -/
def byteOfWord (w : Word) (k : Nat) : Byte := w.extractLsb' (8 * k) 8

/-! ## Operand fields (R79, R80, R82, R83) -/

/-- The general register named by a 4-bit compare-and-jump field: 0..7 name R0..R7 and 8..15 name R16..R23 (R80).
PRESUMED (D7), log 13. -/
def cjReg (b : BitVec 4) : GReg :=
  if b.toNat < 8 then Fin.ofNat 32 b.toNat else Fin.ofNat 32 (b.toNat + 8)

/-- The general register named by a 5-bit field (R82, R83). -/
def gReg (b : BitVec 5) : GReg := Fin.ofNat 32 b.toNat

/-- Field `s4`, bits 19:16 (R71, R80). -/
def fieldS4 (w : Word) : GReg := cjReg (w.extractLsb' 16 4)

/-- Field `t4`, bits 11:8 (R81). -/
def fieldT4 (w : Word) : GReg := cjReg (w.extractLsb' 8 4)

/-- `#U5`, bits 12:8, zero-extended (R80). -/
def fieldU5 (w : Word) : Nat := (w.extractLsb' 8 5).toNat

/-- The byte offset of `#r9:2`: `sext_9(w[21:20] ++ w[7:1]) * 4` (R79). PRESUMED bit order (D31), log 13. -/
def fieldR9 (w : Word) : Int := (w.extractLsb' 20 2 ++ w.extractLsb' 1 7).toInt * 4

/-- The byte offset of `#r13:2`: `sext_13(w[21] ++ w[13] ++ w[11:1]) * 4` (R82). -/
def fieldR13 (w : Word) : Int := (w.extractLsb' 21 1 ++ w.extractLsb' 13 1 ++ w.extractLsb' 1 11).toInt * 4

/-- `#s16`: `sext_16(w[27:21] ++ w[13:5])` (R83). -/
def fieldS16 (w : Word) : Int := (w.extractLsb' 21 7 ++ w.extractLsb' 5 9).toInt

/-- `Rs`, bits 20:16 (R82, R83). -/
def fieldRs (w : Word) : GReg := gReg (w.extractLsb' 16 5)

/-- `Rt`, bits 12:8 (R83). -/
def fieldRt (w : Word) : GReg := gReg (w.extractLsb' 8 5)

/-- `Rd`, bits 4:0 (R83). -/
def fieldRd (w : Word) : GReg := gReg (w.extractLsb' 0 5)

/-- The Parse field, bits 15:14 (R71). -/
def fieldParse (w : Word) : BitVec 2 := w.extractLsb' 14 2

/-! ## The opcode table -/

/-- Where the bits of a row come from (key `provenance` of spec/opcode_table.json; R81-R84). -/
inductive Provenance where
  /-- printed in the source: 20 rows -/
  | source
  /-- supplied from general knowledge: 63 rows, admitted only under `ADMIT_UNSOURCED_ENCODINGS` -/
  | generalKnowledge
deriving DecidableEq, Repr

/-- One encoded row of the table: its syntax, format, provenance, match and mask, and the instruction it makes of a word. -/
structure Row where
  asm : String
  format : Format
  provenance : Provenance
  matchBits : Word
  mask : Word
  build : Word → Instr

/-- "A word `w` selects a row when `(w & mask) == match`" (R77). -/
def Row.selects (r : Row) (w : Word) : Bool := w &&& r.mask == r.matchBits

/-- A row of format `CJ-N1` (R75, R81). -/
def rowN1 (asm : String) (pv : Provenance) (m : Word) (f : GReg → Int → Instr) : Row :=
  ⟨asm, .cjN1, pv, m, 0xFFC02300#32, fun w => f (fieldS4 w) (fieldR9 w)⟩

/-- A row of format `CJ-U5` (R76, R81). -/
def rowU5 (asm : String) (pv : Provenance) (m : Word) (f : GReg → Nat → Int → Instr) : Row :=
  ⟨asm, .cjU5, pv, m, 0xFFC02000#32, fun w => f (fieldS4 w) (fieldU5 w) (fieldR9 w)⟩

/-- A row of format `CJ-RR` (R81). -/
def rowRR (asm : String) (pv : Provenance) (m : Word) (f : GReg → GReg → Int → Instr) : Row :=
  ⟨asm, .cjRR, pv, m, 0xFFC03000#32, fun w => f (fieldS4 w) (fieldT4 w) (fieldR9 w)⟩

/-- A row of format `JR` (R82). -/
def rowJR (asm : String) (pv : Provenance) (m : Word) (f : GReg → Int → Instr) : Row :=
  ⟨asm, .jr, pv, m, 0xFFC01000#32, fun w => f (fieldRs w) (fieldR13 w)⟩

/-- A row of format `ADDI` (R83). -/
def rowAddi (asm : String) (pv : Provenance) (m : Word) (f : GReg → GReg → Int → Instr) : Row :=
  ⟨asm, .addi, pv, m, 0xF0000000#32, fun w => f (fieldRd w) (fieldRs w) (fieldS16 w)⟩

/-- A row of format `ALU32-RRR` (R83). -/
def rowRrr (asm : String) (pv : Provenance) (m : Word) (f : GReg → GReg → GReg → Instr) : Row :=
  ⟨asm, .alu32Rrr, pv, m, 0xFFE00000#32, fun w => f (fieldRd w) (fieldRs w) (fieldRt w)⟩

/-- The rows of R103. -/
def rowsCmpEqN1 : List Row :=
  [rowN1 "p0=cmp.eq(Rs,#-1); if (p0.new) jump:nt #r9:2" .source 0x11800000#32 .p0CmpEqN1NewNt,
   rowN1 "p0=cmp.eq(Rs,#-1); if (p0.new) jump:t #r9:2" .source 0x11802000#32 .p0CmpEqN1NewT,
   rowN1 "p0=cmp.eq(Rs,#-1); if (!p0.new) jump:nt #r9:2" .source 0x11C00000#32 .p0CmpEqN1NotNewNt,
   rowN1 "p0=cmp.eq(Rs,#-1); if (!p0.new) jump:t #r9:2" .source 0x11C02000#32 .p0CmpEqN1NotNewT,
   rowN1 "p1=cmp.eq(Rs,#-1); if (p1.new) jump:nt #r9:2" .generalKnowledge 0x13800000#32 .p1CmpEqN1NewNt,
   rowN1 "p1=cmp.eq(Rs,#-1); if (p1.new) jump:t #r9:2" .generalKnowledge 0x13802000#32 .p1CmpEqN1NewT,
   rowN1 "p1=cmp.eq(Rs,#-1); if (!p1.new) jump:nt #r9:2" .generalKnowledge 0x13C00000#32 .p1CmpEqN1NotNewNt,
   rowN1 "p1=cmp.eq(Rs,#-1); if (!p1.new) jump:t #r9:2" .generalKnowledge 0x13C02000#32 .p1CmpEqN1NotNewT]

/-- The rows of R104. -/
def rowsCmpEqU5 : List Row :=
  [rowU5 "p0=cmp.eq(Rs,#U5); if (p0.new) jump:nt #r9:2" .source 0x10000000#32 .p0CmpEqU5NewNt,
   rowU5 "p0=cmp.eq(Rs,#U5); if (p0.new) jump:t #r9:2" .source 0x10002000#32 .p0CmpEqU5NewT,
   rowU5 "p0=cmp.eq(Rs,#U5); if (!p0.new) jump:nt #r9:2" .source 0x10400000#32 .p0CmpEqU5NotNewNt,
   rowU5 "p0=cmp.eq(Rs,#U5); if (!p0.new) jump:t #r9:2" .source 0x10402000#32 .p0CmpEqU5NotNewT,
   rowU5 "p1=cmp.eq(Rs,#U5); if (p1.new) jump:nt #r9:2" .generalKnowledge 0x12000000#32 .p1CmpEqU5NewNt,
   rowU5 "p1=cmp.eq(Rs,#U5); if (p1.new) jump:t #r9:2" .generalKnowledge 0x12002000#32 .p1CmpEqU5NewT,
   rowU5 "p1=cmp.eq(Rs,#U5); if (!p1.new) jump:nt #r9:2" .generalKnowledge 0x12400000#32 .p1CmpEqU5NotNewNt,
   rowU5 "p1=cmp.eq(Rs,#U5); if (!p1.new) jump:t #r9:2" .generalKnowledge 0x12402000#32 .p1CmpEqU5NotNewT]

/-- The rows of R105. -/
def rowsCmpEqRR : List Row :=
  [rowRR "p0=cmp.eq(Rs,Rt); if (p0.new) jump:nt #r9:2" .generalKnowledge 0x14000000#32 .p0CmpEqRRNewNt,
   rowRR "p0=cmp.eq(Rs,Rt); if (p0.new) jump:t #r9:2" .generalKnowledge 0x14002000#32 .p0CmpEqRRNewT,
   rowRR "p0=cmp.eq(Rs,Rt); if (!p0.new) jump:nt #r9:2" .generalKnowledge 0x14400000#32 .p0CmpEqRRNotNewNt,
   rowRR "p0=cmp.eq(Rs,Rt); if (!p0.new) jump:t #r9:2" .generalKnowledge 0x14402000#32 .p0CmpEqRRNotNewT,
   rowRR "p1=cmp.eq(Rs,Rt); if (p1.new) jump:nt #r9:2" .generalKnowledge 0x14001000#32 .p1CmpEqRRNewNt,
   rowRR "p1=cmp.eq(Rs,Rt); if (p1.new) jump:t #r9:2" .generalKnowledge 0x14003000#32 .p1CmpEqRRNewT,
   rowRR "p1=cmp.eq(Rs,Rt); if (!p1.new) jump:nt #r9:2" .generalKnowledge 0x14401000#32 .p1CmpEqRRNotNewNt,
   rowRR "p1=cmp.eq(Rs,Rt); if (!p1.new) jump:t #r9:2" .generalKnowledge 0x14403000#32 .p1CmpEqRRNotNewT]

/-- The rows of R106. -/
def rowsCmpGtN1 : List Row :=
  [rowN1 "p0=cmp.gt(Rs,#-1); if (p0.new) jump:nt #r9:2" .source 0x11800100#32 .p0CmpGtN1NewNt,
   rowN1 "p0=cmp.gt(Rs,#-1); if (p0.new) jump:t #r9:2" .source 0x11802100#32 .p0CmpGtN1NewT,
   rowN1 "p0=cmp.gt(Rs,#-1); if (!p0.new) jump:nt #r9:2" .source 0x11C00100#32 .p0CmpGtN1NotNewNt,
   rowN1 "p0=cmp.gt(Rs,#-1); if (!p0.new) jump:t #r9:2" .source 0x11C02100#32 .p0CmpGtN1NotNewT,
   rowN1 "p1=cmp.gt(Rs,#-1); if (p1.new) jump:nt #r9:2" .generalKnowledge 0x13800100#32 .p1CmpGtN1NewNt,
   rowN1 "p1=cmp.gt(Rs,#-1); if (p1.new) jump:t #r9:2" .generalKnowledge 0x13802100#32 .p1CmpGtN1NewT,
   rowN1 "p1=cmp.gt(Rs,#-1); if (!p1.new) jump:nt #r9:2" .generalKnowledge 0x13C00100#32 .p1CmpGtN1NotNewNt,
   rowN1 "p1=cmp.gt(Rs,#-1); if (!p1.new) jump:t #r9:2" .generalKnowledge 0x13C02100#32 .p1CmpGtN1NotNewT]

/-- The rows of R107. -/
def rowsCmpGtU5 : List Row :=
  [rowU5 "p0=cmp.gt(Rs,#U5); if (p0.new) jump:nt #r9:2" .source 0x10800000#32 .p0CmpGtU5NewNt,
   rowU5 "p0=cmp.gt(Rs,#U5); if (p0.new) jump:t #r9:2" .source 0x10802000#32 .p0CmpGtU5NewT,
   rowU5 "p0=cmp.gt(Rs,#U5); if (!p0.new) jump:nt #r9:2" .source 0x10C00000#32 .p0CmpGtU5NotNewNt,
   rowU5 "p0=cmp.gt(Rs,#U5); if (!p0.new) jump:t #r9:2" .source 0x10C02000#32 .p0CmpGtU5NotNewT,
   rowU5 "p1=cmp.gt(Rs,#U5); if (p1.new) jump:nt #r9:2" .generalKnowledge 0x12800000#32 .p1CmpGtU5NewNt,
   rowU5 "p1=cmp.gt(Rs,#U5); if (p1.new) jump:t #r9:2" .generalKnowledge 0x12802000#32 .p1CmpGtU5NewT,
   rowU5 "p1=cmp.gt(Rs,#U5); if (!p1.new) jump:nt #r9:2" .generalKnowledge 0x12C00000#32 .p1CmpGtU5NotNewNt,
   rowU5 "p1=cmp.gt(Rs,#U5); if (!p1.new) jump:t #r9:2" .generalKnowledge 0x12C02000#32 .p1CmpGtU5NotNewT]

/-- The rows of R108. -/
def rowsCmpGtRR : List Row :=
  [rowRR "p0=cmp.gt(Rs,Rt); if (p0.new) jump:nt #r9:2" .generalKnowledge 0x14800000#32 .p0CmpGtRRNewNt,
   rowRR "p0=cmp.gt(Rs,Rt); if (p0.new) jump:t #r9:2" .generalKnowledge 0x14802000#32 .p0CmpGtRRNewT,
   rowRR "p0=cmp.gt(Rs,Rt); if (!p0.new) jump:nt #r9:2" .generalKnowledge 0x14C00000#32 .p0CmpGtRRNotNewNt,
   rowRR "p0=cmp.gt(Rs,Rt); if (!p0.new) jump:t #r9:2" .generalKnowledge 0x14C02000#32 .p0CmpGtRRNotNewT,
   rowRR "p1=cmp.gt(Rs,Rt); if (p1.new) jump:nt #r9:2" .generalKnowledge 0x14801000#32 .p1CmpGtRRNewNt,
   rowRR "p1=cmp.gt(Rs,Rt); if (p1.new) jump:t #r9:2" .generalKnowledge 0x14803000#32 .p1CmpGtRRNewT,
   rowRR "p1=cmp.gt(Rs,Rt); if (!p1.new) jump:nt #r9:2" .generalKnowledge 0x14C01000#32 .p1CmpGtRRNotNewNt,
   rowRR "p1=cmp.gt(Rs,Rt); if (!p1.new) jump:t #r9:2" .generalKnowledge 0x14C03000#32 .p1CmpGtRRNotNewT]

/-- The rows of R109. -/
def rowsCmpGtuU5 : List Row :=
  [rowU5 "p0=cmp.gtu(Rs,#U5); if (p0.new) jump:nt #r9:2" .generalKnowledge 0x11000000#32 .p0CmpGtuU5NewNt,
   rowU5 "p0=cmp.gtu(Rs,#U5); if (p0.new) jump:t #r9:2" .generalKnowledge 0x11002000#32 .p0CmpGtuU5NewT,
   rowU5 "p0=cmp.gtu(Rs,#U5); if (!p0.new) jump:nt #r9:2" .generalKnowledge 0x11400000#32 .p0CmpGtuU5NotNewNt,
   rowU5 "p0=cmp.gtu(Rs,#U5); if (!p0.new) jump:t #r9:2" .generalKnowledge 0x11402000#32 .p0CmpGtuU5NotNewT,
   rowU5 "p1=cmp.gtu(Rs,#U5); if (p1.new) jump:nt #r9:2" .generalKnowledge 0x13000000#32 .p1CmpGtuU5NewNt,
   rowU5 "p1=cmp.gtu(Rs,#U5); if (p1.new) jump:t #r9:2" .generalKnowledge 0x13002000#32 .p1CmpGtuU5NewT,
   rowU5 "p1=cmp.gtu(Rs,#U5); if (!p1.new) jump:nt #r9:2" .generalKnowledge 0x13400000#32 .p1CmpGtuU5NotNewNt,
   rowU5 "p1=cmp.gtu(Rs,#U5); if (!p1.new) jump:t #r9:2" .generalKnowledge 0x13402000#32 .p1CmpGtuU5NotNewT]

/-- The rows of R110. -/
def rowsCmpGtuRR : List Row :=
  [rowRR "p0=cmp.gtu(Rs,Rt); if (p0.new) jump:nt #r9:2" .generalKnowledge 0x15000000#32 .p0CmpGtuRRNewNt,
   rowRR "p0=cmp.gtu(Rs,Rt); if (p0.new) jump:t #r9:2" .generalKnowledge 0x15002000#32 .p0CmpGtuRRNewT,
   rowRR "p0=cmp.gtu(Rs,Rt); if (!p0.new) jump:nt #r9:2" .generalKnowledge 0x15400000#32 .p0CmpGtuRRNotNewNt,
   rowRR "p0=cmp.gtu(Rs,Rt); if (!p0.new) jump:t #r9:2" .generalKnowledge 0x15402000#32 .p0CmpGtuRRNotNewT,
   rowRR "p1=cmp.gtu(Rs,Rt); if (p1.new) jump:nt #r9:2" .generalKnowledge 0x15001000#32 .p1CmpGtuRRNewNt,
   rowRR "p1=cmp.gtu(Rs,Rt); if (p1.new) jump:t #r9:2" .generalKnowledge 0x15003000#32 .p1CmpGtuRRNewT,
   rowRR "p1=cmp.gtu(Rs,Rt); if (!p1.new) jump:nt #r9:2" .generalKnowledge 0x15401000#32 .p1CmpGtuRRNotNewNt,
   rowRR "p1=cmp.gtu(Rs,Rt); if (!p1.new) jump:t #r9:2" .generalKnowledge 0x15403000#32 .p1CmpGtuRRNotNewT]

/-- The rows of R111. -/
def rowsTstbit : List Row :=
  [rowN1 "p0=tstbit(Rs,#0); if (p0.new) jump:nt #r9:2" .source 0x11800300#32 .p0TstbitNewNt,
   rowN1 "p0=tstbit(Rs,#0); if (p0.new) jump:t #r9:2" .source 0x11802300#32 .p0TstbitNewT,
   rowN1 "p0=tstbit(Rs,#0); if (!p0.new) jump:nt #r9:2" .source 0x11C00300#32 .p0TstbitNotNewNt,
   rowN1 "p0=tstbit(Rs,#0); if (!p0.new) jump:t #r9:2" .source 0x11C02300#32 .p0TstbitNotNewT,
   rowN1 "p1=tstbit(Rs,#0); if (p1.new) jump:nt #r9:2" .generalKnowledge 0x13800300#32 .p1TstbitNewNt,
   rowN1 "p1=tstbit(Rs,#0); if (p1.new) jump:t #r9:2" .generalKnowledge 0x13802300#32 .p1TstbitNewT,
   rowN1 "p1=tstbit(Rs,#0); if (!p1.new) jump:nt #r9:2" .generalKnowledge 0x13C00300#32 .p1TstbitNotNewNt,
   rowN1 "p1=tstbit(Rs,#0); if (!p1.new) jump:t #r9:2" .generalKnowledge 0x13C02300#32 .p1TstbitNotNewT]

/-- The rows of R142-R149. -/
def rowsJumpOnRegister : List Row :=
  [rowJR "if (Rs!=#0) jump:nt #r13:2" .generalKnowledge 0x61000000#32 .jumpNeNt,
   rowJR "if (Rs!=#0) jump:t #r13:2" .generalKnowledge 0x61001000#32 .jumpNeT,
   rowJR "if (Rs<=#0) jump:nt #r13:2" .generalKnowledge 0x61C00000#32 .jumpLeNt,
   rowJR "if (Rs<=#0) jump:t #r13:2" .generalKnowledge 0x61C01000#32 .jumpLeT,
   rowJR "if (Rs==#0) jump:nt #r13:2" .generalKnowledge 0x61800000#32 .jumpEqNt,
   rowJR "if (Rs==#0) jump:t #r13:2" .generalKnowledge 0x61801000#32 .jumpEqT,
   rowJR "if (Rs>=#0) jump:nt #r13:2" .generalKnowledge 0x61400000#32 .jumpGeNt,
   rowJR "if (Rs>=#0) jump:t #r13:2" .generalKnowledge 0x61401000#32 .jumpGeT]

/-- The rows of R191-R193. -/
def rowsAdd : List Row :=
  [rowAddi "Rd=add(Rs,#s16)" .generalKnowledge 0xB0000000#32 .addImm,
   rowRrr "Rd=add(Rs,Rt)" .generalKnowledge 0xF3000000#32 .addReg,
   rowRrr "Rd=add(Rs,Rt):sat" .generalKnowledge 0xF6400000#32 .addRegSat]

/-- The 83 encoded rows of spec/opcode_table.json, in its order. The 13 HVX rows have no encoding (R85). -/
def rows : List Row :=
  rowsCmpEqN1 ++ rowsCmpEqU5 ++ rowsCmpEqRR ++ rowsCmpGtN1 ++ rowsCmpGtU5 ++ rowsCmpGtRR ++ rowsCmpGtuU5 ++ rowsCmpGtuRR ++ rowsTstbit
    ++ rowsJumpOnRegister ++ rowsAdd

/-! ## Decoding (R86) -/

/-- Why a word is no instruction of the model. -/
inductive DecodeError where
  /-- `w[15:14] != 0b11` (R72, R86 step 1) -/
  | parseNotSingle (w : Word)
  /-- no row matches `w` (R84, R86 step 3) -/
  | noSuchEncoding (w : Word)
deriving DecidableEq, Repr

/-- Steps 1 to 3 of R86: the row a word selects. -/
def decodeRow (w : Word) : Except DecodeError Row :=
  if fieldParse w = 3#2 then
    match rows.find? (fun r => r.selects w) with
    | some r => .ok r
    | none => .error (.noSuchEncoding w)
  else .error (.parseNotSingle w)

/-- The instruction a word encodes (R86 steps 1 to 3 and 5). -/
def decode (w : Word) : Except DecodeError Instr :=
  match decodeRow w with
  | .ok r => .ok (r.build w)
  | .error e => .error e

/-! ## Encoding

An encoder writes Parse = `11` (R72) and 0 into every `-` bit (R74, D21). -/

/-- The 4-bit field of a register of R0..R7 or R16..R23 (R80). Of another register it is that of the register 8 lower, modulo
16 (DESIGN CHOICE, log 24). -/
def cjField (r : GReg) : BitVec 4 := if r.val < 8 then BitVec.ofNat 4 r.val else BitVec.ofNat 4 (r.val - 8)

/-- The bits of `Rs` in field `s4` (R80). -/
def bitsS4 (r : GReg) : Word := (cjField r).setWidth 32 <<< 16

/-- The bits of `Rt` in field `t4` (R81). -/
def bitsT4 (r : GReg) : Word := (cjField r).setWidth 32 <<< 8

/-- The bits of `#U5` (R80); of a value out of range, its low 5 bits (DESIGN CHOICE, log 24). -/
def bitsU5 (u : Nat) : Word := (BitVec.ofNat 5 u).setWidth 32 <<< 8

/-- The 9-bit immediate `imm9` placed at bits 21:20 and 7:1 (R79). -/
def placeR9 (imm : BitVec 9) : Word := (imm.extractLsb' 7 2).setWidth 32 <<< 20 ||| (imm.extractLsb' 0 7).setWidth 32 <<< 1

/-- The bits of `#r9:2` for the byte offset `off` (R79); of an offset out of range or no multiple of 4, those of `off / 4`
modulo 2^9 (DESIGN CHOICE, log 24). -/
def bitsR9 (off : Int) : Word := placeR9 (BitVec.ofInt 9 (off / 4))

/-- The 13-bit immediate `imm13` placed at bits 21, 13 and 11:1 (R82). -/
def placeR13 (imm : BitVec 13) : Word :=
  (imm.extractLsb' 12 1).setWidth 32 <<< 21 ||| (imm.extractLsb' 11 1).setWidth 32 <<< 13
    ||| (imm.extractLsb' 0 11).setWidth 32 <<< 1

/-- The bits of `#r13:2` for the byte offset `off` (R82); of an offset out of range or no multiple of 4, those of `off / 4`
modulo 2^13 (DESIGN CHOICE, log 24). -/
def bitsR13 (off : Int) : Word := placeR13 (BitVec.ofInt 13 (off / 4))

/-- The 16-bit immediate `imm16` placed at bits 27:21 and 13:5 (R83). -/
def placeS16 (imm : BitVec 16) : Word :=
  (imm.extractLsb' 9 7).setWidth 32 <<< 21 ||| (imm.extractLsb' 0 9).setWidth 32 <<< 5

/-- The bits of `#s16` (R83); of a value out of range, its low 16 bits (DESIGN CHOICE, log 24). -/
def bitsS16 (s16 : Int) : Word := placeS16 (BitVec.ofInt 16 s16)

/-- The bits of a 5-bit `Rs` (R82, R83). -/
def bitsRs (r : GReg) : Word := (BitVec.ofNat 5 r.val).setWidth 32 <<< 16

/-- The bits of a 5-bit `Rt` (R83). -/
def bitsRt (r : GReg) : Word := (BitVec.ofNat 5 r.val).setWidth 32 <<< 8

/-- The bits of `Rd` (R83). -/
def bitsRd (r : GReg) : Word := (BitVec.ofNat 5 r.val).setWidth 32

/-- Parse = `11`: a packet of one instruction (R72). -/
def bitsParse : Word := 0x0000C000#32

/-- A word of format `CJ-N1` with fixed bits `m` (R75). -/
def wordN1 (m : Word) (rs : GReg) (off : Int) : Word := m ||| bitsParse ||| bitsS4 rs ||| bitsR9 off

/-- A word of format `CJ-U5` (R76). -/
def wordU5 (m : Word) (rs : GReg) (u : Nat) (off : Int) : Word :=
  m ||| bitsParse ||| bitsS4 rs ||| bitsU5 u ||| bitsR9 off

/-- A word of format `CJ-RR` (R81). -/
def wordRR (m : Word) (rs rt : GReg) (off : Int) : Word :=
  m ||| bitsParse ||| bitsS4 rs ||| bitsT4 rt ||| bitsR9 off

/-- A word of format `JR` (R82). -/
def wordJR (m : Word) (rs : GReg) (off : Int) : Word := m ||| bitsParse ||| bitsRs rs ||| bitsR13 off

/-- A word of format `ADDI` (R83). -/
def wordAddi (m : Word) (rd rs : GReg) (s16 : Int) : Word :=
  m ||| bitsParse ||| bitsRs rs ||| bitsS16 s16 ||| bitsRd rd

/-- A word of format `ALU32-RRR` (R83). -/
def wordRrr (m : Word) (rd rs rt : GReg) : Word :=
  m ||| bitsParse ||| bitsRs rs ||| bitsRt rt ||| bitsRd rd

/-- The word of an instruction; none for the HVX instructions, which have no encoding (R85). DESIGN CHOICE: for operands the
fields cannot express (70_reset_and_hazards.md R223), of which the spec does not say what an encoder gives, it answers the word
that `cjField`, `bitsR9`, `bitsR13`, `bitsU5` and `bitsS16` make by reducing them to the field's width, which is the word of other
operands; `Instr.wf` rules such terms out. Log 24. -/
def encode : Instr → Option Word
  | .p0CmpEqN1NewNt rs off => some (wordN1 0x11800000#32 rs off)
  | .p0CmpEqN1NewT rs off => some (wordN1 0x11802000#32 rs off)
  | .p0CmpEqN1NotNewNt rs off => some (wordN1 0x11C00000#32 rs off)
  | .p0CmpEqN1NotNewT rs off => some (wordN1 0x11C02000#32 rs off)
  | .p1CmpEqN1NewNt rs off => some (wordN1 0x13800000#32 rs off)
  | .p1CmpEqN1NewT rs off => some (wordN1 0x13802000#32 rs off)
  | .p1CmpEqN1NotNewNt rs off => some (wordN1 0x13C00000#32 rs off)
  | .p1CmpEqN1NotNewT rs off => some (wordN1 0x13C02000#32 rs off)
  | .p0CmpEqU5NewNt rs u off => some (wordU5 0x10000000#32 rs u off)
  | .p0CmpEqU5NewT rs u off => some (wordU5 0x10002000#32 rs u off)
  | .p0CmpEqU5NotNewNt rs u off => some (wordU5 0x10400000#32 rs u off)
  | .p0CmpEqU5NotNewT rs u off => some (wordU5 0x10402000#32 rs u off)
  | .p1CmpEqU5NewNt rs u off => some (wordU5 0x12000000#32 rs u off)
  | .p1CmpEqU5NewT rs u off => some (wordU5 0x12002000#32 rs u off)
  | .p1CmpEqU5NotNewNt rs u off => some (wordU5 0x12400000#32 rs u off)
  | .p1CmpEqU5NotNewT rs u off => some (wordU5 0x12402000#32 rs u off)
  | .p0CmpEqRRNewNt rs rt off => some (wordRR 0x14000000#32 rs rt off)
  | .p0CmpEqRRNewT rs rt off => some (wordRR 0x14002000#32 rs rt off)
  | .p0CmpEqRRNotNewNt rs rt off => some (wordRR 0x14400000#32 rs rt off)
  | .p0CmpEqRRNotNewT rs rt off => some (wordRR 0x14402000#32 rs rt off)
  | .p1CmpEqRRNewNt rs rt off => some (wordRR 0x14001000#32 rs rt off)
  | .p1CmpEqRRNewT rs rt off => some (wordRR 0x14003000#32 rs rt off)
  | .p1CmpEqRRNotNewNt rs rt off => some (wordRR 0x14401000#32 rs rt off)
  | .p1CmpEqRRNotNewT rs rt off => some (wordRR 0x14403000#32 rs rt off)
  | .p0CmpGtN1NewNt rs off => some (wordN1 0x11800100#32 rs off)
  | .p0CmpGtN1NewT rs off => some (wordN1 0x11802100#32 rs off)
  | .p0CmpGtN1NotNewNt rs off => some (wordN1 0x11C00100#32 rs off)
  | .p0CmpGtN1NotNewT rs off => some (wordN1 0x11C02100#32 rs off)
  | .p1CmpGtN1NewNt rs off => some (wordN1 0x13800100#32 rs off)
  | .p1CmpGtN1NewT rs off => some (wordN1 0x13802100#32 rs off)
  | .p1CmpGtN1NotNewNt rs off => some (wordN1 0x13C00100#32 rs off)
  | .p1CmpGtN1NotNewT rs off => some (wordN1 0x13C02100#32 rs off)
  | .p0CmpGtU5NewNt rs u off => some (wordU5 0x10800000#32 rs u off)
  | .p0CmpGtU5NewT rs u off => some (wordU5 0x10802000#32 rs u off)
  | .p0CmpGtU5NotNewNt rs u off => some (wordU5 0x10C00000#32 rs u off)
  | .p0CmpGtU5NotNewT rs u off => some (wordU5 0x10C02000#32 rs u off)
  | .p1CmpGtU5NewNt rs u off => some (wordU5 0x12800000#32 rs u off)
  | .p1CmpGtU5NewT rs u off => some (wordU5 0x12802000#32 rs u off)
  | .p1CmpGtU5NotNewNt rs u off => some (wordU5 0x12C00000#32 rs u off)
  | .p1CmpGtU5NotNewT rs u off => some (wordU5 0x12C02000#32 rs u off)
  | .p0CmpGtRRNewNt rs rt off => some (wordRR 0x14800000#32 rs rt off)
  | .p0CmpGtRRNewT rs rt off => some (wordRR 0x14802000#32 rs rt off)
  | .p0CmpGtRRNotNewNt rs rt off => some (wordRR 0x14C00000#32 rs rt off)
  | .p0CmpGtRRNotNewT rs rt off => some (wordRR 0x14C02000#32 rs rt off)
  | .p1CmpGtRRNewNt rs rt off => some (wordRR 0x14801000#32 rs rt off)
  | .p1CmpGtRRNewT rs rt off => some (wordRR 0x14803000#32 rs rt off)
  | .p1CmpGtRRNotNewNt rs rt off => some (wordRR 0x14C01000#32 rs rt off)
  | .p1CmpGtRRNotNewT rs rt off => some (wordRR 0x14C03000#32 rs rt off)
  | .p0CmpGtuU5NewNt rs u off => some (wordU5 0x11000000#32 rs u off)
  | .p0CmpGtuU5NewT rs u off => some (wordU5 0x11002000#32 rs u off)
  | .p0CmpGtuU5NotNewNt rs u off => some (wordU5 0x11400000#32 rs u off)
  | .p0CmpGtuU5NotNewT rs u off => some (wordU5 0x11402000#32 rs u off)
  | .p1CmpGtuU5NewNt rs u off => some (wordU5 0x13000000#32 rs u off)
  | .p1CmpGtuU5NewT rs u off => some (wordU5 0x13002000#32 rs u off)
  | .p1CmpGtuU5NotNewNt rs u off => some (wordU5 0x13400000#32 rs u off)
  | .p1CmpGtuU5NotNewT rs u off => some (wordU5 0x13402000#32 rs u off)
  | .p0CmpGtuRRNewNt rs rt off => some (wordRR 0x15000000#32 rs rt off)
  | .p0CmpGtuRRNewT rs rt off => some (wordRR 0x15002000#32 rs rt off)
  | .p0CmpGtuRRNotNewNt rs rt off => some (wordRR 0x15400000#32 rs rt off)
  | .p0CmpGtuRRNotNewT rs rt off => some (wordRR 0x15402000#32 rs rt off)
  | .p1CmpGtuRRNewNt rs rt off => some (wordRR 0x15001000#32 rs rt off)
  | .p1CmpGtuRRNewT rs rt off => some (wordRR 0x15003000#32 rs rt off)
  | .p1CmpGtuRRNotNewNt rs rt off => some (wordRR 0x15401000#32 rs rt off)
  | .p1CmpGtuRRNotNewT rs rt off => some (wordRR 0x15403000#32 rs rt off)
  | .p0TstbitNewNt rs off => some (wordN1 0x11800300#32 rs off)
  | .p0TstbitNewT rs off => some (wordN1 0x11802300#32 rs off)
  | .p0TstbitNotNewNt rs off => some (wordN1 0x11C00300#32 rs off)
  | .p0TstbitNotNewT rs off => some (wordN1 0x11C02300#32 rs off)
  | .p1TstbitNewNt rs off => some (wordN1 0x13800300#32 rs off)
  | .p1TstbitNewT rs off => some (wordN1 0x13802300#32 rs off)
  | .p1TstbitNotNewNt rs off => some (wordN1 0x13C00300#32 rs off)
  | .p1TstbitNotNewT rs off => some (wordN1 0x13C02300#32 rs off)
  | .jumpNeNt rs off => some (wordJR 0x61000000#32 rs off)
  | .jumpNeT rs off => some (wordJR 0x61001000#32 rs off)
  | .jumpLeNt rs off => some (wordJR 0x61C00000#32 rs off)
  | .jumpLeT rs off => some (wordJR 0x61C01000#32 rs off)
  | .jumpEqNt rs off => some (wordJR 0x61800000#32 rs off)
  | .jumpEqT rs off => some (wordJR 0x61801000#32 rs off)
  | .jumpGeNt rs off => some (wordJR 0x61400000#32 rs off)
  | .jumpGeT rs off => some (wordJR 0x61401000#32 rs off)
  | .addImm rd rs s16 => some (wordAddi 0xB0000000#32 rd rs s16)
  | .addReg rd rs rt => some (wordRrr 0xF3000000#32 rd rs rt)
  | .addRegSat rd rs rt => some (wordRrr 0xF6400000#32 rd rs rt)
  | .vasrBHSat _ _ _ _
  | .vasrBHRndSat _ _ _ _
  | .vasrHWRndSat _ _ _ _
  | .vasrHW _ _ _ _
  | .vasrHWSat _ _ _ _
  | .vasrUbHSat _ _ _ _
  | .vasrUbHRndSat _ _ _ _
  | .vasrUbUhSat _ _ _ _
  | .vasrUbUhRndSat _ _ _ _
  | .vasrUhUwSat _ _ _ _
  | .vasrUhUwRndSat _ _ _ _
  | .vasrUhWSat _ _ _ _
  | .vasrUhWRndSat _ _ _ _ => none

/-! ## The host's entry -/

/-- The instruction the decoder reads from the `nbits` bits of `w` (higher bits 0), laid out as four bytes in the order of
R53 and read back. Parse must be `11`: any other value is refused (R72), and answers none. -/
def decodeTableWord (nbits w : Nat) : Option Instr :=
  let x : Word := BitVec.ofNat 32 (w % 2 ^ nbits)
  match decode (wordOfBytes (byteOfWord x 0) (byteOfWord x 1) (byteOfWord x 2) (byteOfWord x 3)) with
  | .ok i => some i
  | .error _ => none

end Sys2Proof
end

