-- ==== Sys2Proof/Machine/State.lean ====
section
/-! DEFINITION. The state of the machine (10_state.md R37): the architectural registers and the parameters of the run,
the reasons a step stops (60_exceptions.md R203), and the state at reset (10_state.md R38). -/

namespace Sys2Proof.Machine

open Sys2Proof

/-- Bytes by address in ONE canonical form: addresses strictly rising, each below 2^32. An unlisted address holds no
value, so no entry can equal what an unlisted address reads as (20_memory.md R51: the text is a PARTIAL map). Log 7. -/
abbrev Memory := List Host.Cell

/-- A vector register's value: its 32-bit words, bits 31:0 first (10_state.md R33, 00_scope.md R11). Log 4. -/
abbrev VecVal := List Word

/-- The parameters of a run (R37, 00_scope.md R6). They are no state of the machine: no step changes them. Log 6. -/
structure Params where
  /-- the program text (R51, R53, R60) -/
  text : Memory
  /-- `HALT_PC`: the run has ended when `pc` is here (70_reset_and_hazards.md R226) -/
  haltPc : Word
  /-- `VLEN_BITS` / 32 (R33, D14) -/
  vlenWords : Nat
  /-- `ADMIT_UNSOURCED_ENCODINGS` (30_encoding.md R84, D32) -/
  admitUnsourced : Bool
deriving DecidableEq, Repr

/-- The state of the machine (R37). -/
structure State where
  /-- general registers R0..R31 (R20) -/
  r : Vector Word 32
  /-- predicate registers P0..P3 (R30) -/
  p : Vector Byte 4
  /-- HVX vector registers V0..V31 (R33) -/
  v : Vector VecVal 32
  /-- the sticky overflow flag OVF of the Status Register (R31, R32) -/
  ovf : Bool
  /-- the program counter (R25, R26) -/
  pc : Word
  /-- the parameters of the run -/
  params : Params
deriving DecidableEq, Repr

/-- The faults of a step (60_exceptions.md R203). R203's `UnwrittenRegister` does not exist here: every register holds a
value (log 10). -/
inductive Fault where
  /-- `fault(FetchOutsideText, a)`: raised by the fetch when `a` = `pc` is not `HALT_PC` and not in the program text
  (20_memory.md R51). SAFE: the machine stops where the hardware might go on (log 7). -/
  | fetchOutsideText (a : Word)
deriving DecidableEq, Repr

/-- The refusals of a step or of a launch (R203). All are SAFE: the machine stops where the hardware might go on. -/
inductive Refusal where
  /-- An instruction without a meaning in the model. Raised by no arm: all 96 instructions have their meaning. -/
  | notModelled (mnemonic : String)
  /-- `refuse(ParseNotSingle, w)`: raised by the decoder when `w[15:14]` is not `11` (30_encoding.md R72; log 11). -/
  | parseNotSingle (w : Word)
  /-- `refuse(NoSuchEncoding, w)`: raised by the decoder when no row of the opcode table matches (R84; log 18). -/
  | noSuchEncoding (w : Word)
  /-- `refuse(UnsourcedEncoding, w)`: raised by the fetch when the matching row's bits are from general knowledge and
  `ADMIT_UNSOURCED_ENCODINGS` is false (R84; log 5). -/
  | unsourcedEncoding (w : Word)
  /-- `refuse(MisalignedEntry)`: raised by the launch when `ENTRY_PC` or `HALT_PC` is not a multiple of 4
  (70_reset_and_hazards.md R221). -/
  | misalignedEntry
deriving DecidableEq, Repr

/-- The parameters at reset: no text, the model's `HALT_PC` (log 3), and the spec's defaults for `VLEN_BITS` (log 4) and
`ADMIT_UNSOURCED_ENCODINGS` (log 5). -/
def Params.reset : Params :=
  { text := [], haltPc := Config.defaultHaltPc, vlenWords := Config.defaultVlenWords,
    admitUnsourced := Config.defaultAdmitUnsourced }

/-- The machine at reset: the launch of R38 with every parameter at its default. The spec gives no register a value
there; every register holds 0 (DESIGN CHOICE, unsafe, log 1), and `pc` is the model's `ENTRY_PC` (log 2). -/
def State.reset : State :=
  { r := Vector.replicate 32 0#32
    p := Vector.replicate 4 0#8
    v := Vector.replicate 32 (List.replicate Config.defaultVlenWords 0#32)
    ovf := false
    pc := Config.defaultEntryPc
    params := Params.reset }

end Sys2Proof.Machine
end

