-- ==== Sys2Proof/Machine/Ops.lean ====
section
/-! DEFINITION. The named operations over the program text and the registers (00_scope.md R14). The spec describes no
exception entry and no return from one (60_exceptions.md R200, R206), so none stands here. -/

namespace Sys2Proof.Machine

open Sys2Proof

/-! ## The program text -/

/-- The byte at address `a`; none where the text holds no value. -/
def Memory.read (m : Memory) (a : Nat) : Option Byte :=
  match m with
  | [] => none
  | c :: m => if c.1 = a then some c.2 else Memory.read m a

/-- Put byte `b` at address `a`, keeping the addresses strictly rising. -/
def Memory.write (m : Memory) (a : Nat) (b : Byte) : Memory :=
  match m with
  | [] => [(a, b)]
  | c :: m =>
    if a < c.1 then (a, b) :: c :: m
    else if c.1 = a then (a, b) :: m
    else c :: Memory.write m a b

/-- Make address `a` hold no value again: what an unlisted address reads as. -/
def Memory.erase (m : Memory) (a : Nat) : Memory :=
  match m with
  | [] => []
  | c :: m => if c.1 = a then Memory.erase m a else c :: Memory.erase m a

/-- Every address of `m` is at least `lo` and the addresses rise strictly. -/
def Memory.risesFrom (lo : Nat) (m : Memory) : Bool :=
  match m with
  | [] => true
  | c :: m => decide (lo ≤ c.1) && Memory.risesFrom (c.1 + 1) m

/-- The canonical form: strictly rising addresses inside the 2^32-byte address space (20_memory.md R50). -/
def Memory.wf (m : Memory) : Bool :=
  Memory.risesFrom 0 m && m.all fun c => decide (c.1 < 2 ^ 32)

/-- An address is a multiple of 4 (10_state.md R27, 20_memory.md R54). -/
def aligned (a : Word) : Bool := a.extractLsb' 0 2 == 0#2

/-- `Fetch(a)` (R51): the word at `a` when `a` is in the domain of the text, that is, when `a` is a multiple of 4 and all
four bytes are there; the bytes are little-endian (R53). -/
def Memory.fetch (m : Memory) (a : Word) : Option Word :=
  if aligned a then
    match m.read a.toNat, m.read (a.toNat + 1), m.read (a.toNat + 2), m.read (a.toNat + 3) with
    | some b0, some b1, some b2, some b3 => some (wordOfBytes b0 b1 b2 b3)
    | _, _, _, _ => none
  else none

/-- Put the word `w` into the text at `a`, as four bytes in the order of R53. Used by the launch and by the loader, never
by a step (R60). -/
def Memory.writeWord (m : Memory) (a w : Word) : Memory :=
  (((m.write a.toNat (byteOfWord w 0)).write (a + 1#32).toNat (byteOfWord w 1)).write (a + 2#32).toNat
    (byteOfWord w 2)).write (a + 3#32).toNat (byteOfWord w 3)

/-- The byte of the program text at address `a`. -/
def State.textByte (s : State) (a : Nat) : Option Byte := s.params.text.read a

/-! ## Registers -/

/-- `R[i]` (R14, 10_state.md R20). No register is hard-wired (R22). -/
def State.readR (s : State) (i : GReg) : Word := s.r[i]

/-- `R[i] <- x` (R14). -/
def State.writeR (s : State) (i : GReg) (x : Word) : State := { s with r := s.r.set i x }

/-- `P[i]` (R14, R30). -/
def State.readP (s : State) (i : PReg) : Byte := s.p[i]

/-- `P[i] <- x` (R14). -/
def State.writeP (s : State) (i : PReg) (x : Byte) : State := { s with p := s.p.set i x }

/-- `V[i]` (R14, R33). -/
def State.readV (s : State) (i : VReg) : VecVal := s.v[i]

/-- `V[i] <- x` (R14). -/
def State.writeV (s : State) (i : VReg) (x : VecVal) : State := { s with v := s.v.set i x }

/-- `OVF <- 1` when `c`, otherwise unchanged: the flag is sticky (R31). -/
def State.orOvf (s : State) (c : Bool) : State := { s with ovf := s.ovf || c }

/-- `pc <- a`. -/
def State.setPc (s : State) (a : Word) : State := { s with pc := a }

/-- `pc <- trunc_32(pc + 4)`: the fall-through (R28, R29; D4, log 19). -/
def State.advancePc (s : State) : State := s.setPc (s.pc + 4#32)

/-! ## The invariant of a run -/

/-- What every reachable state satisfies: `pc` and `HALT_PC` are multiples of 4 (R27, R221), the text is in canonical form,
`VLEN_BITS` is positive and every vector register has that length (R33). -/
abbrev State.Inv (s : State) : Prop :=
  aligned s.pc = true ∧ aligned s.params.haltPc = true ∧ s.params.text.wf = true ∧ 0 < s.params.vlenWords ∧
    ∀ i : VReg, (s.readV i).length = s.params.vlenWords

end Sys2Proof.Machine
end

