-- ==== Sys2Proof/Machine/Operands.lean ====
section
/-! DEFINITION. Operand forms: immediates (30_encoding.md R78-R80), jump targets (R102, R141), compares (R103-R111), and
the elements, shift amounts, rounding shift and saturation of the HVX group (42_hvx_vasr_narrow.md R160-R164). -/

namespace Sys2Proof.Machine

open Sys2Proof

/-! ## Immediates and jump targets -/

/-- `apply_extension(#x)`: the identity, as the model admits no constant extender (R78, D6). Log 12. -/
def applyExtension (x : Int) : Int := x

/-- An immediate in 32-bit arithmetic: `trunc_32` of its value (00_scope.md R9, R14). -/
def immWord (x : Int) : Word := BitVec.ofInt 32 x

/-- `#U5` as a 32-bit value, zero-extended (R80). -/
def immU5 (u : Nat) : Word := BitVec.ofNat 32 u

/-- The constant `-1` of `cmp.eq(Rs,#-1)` and `cmp.gt(Rs,#-1)` (R103, R106). -/
def minusOne : Word := 0xFFFFFFFF#32

/-- The target of a compare-and-jump:
`#r = apply_extension(#r); #r = #r & ~PCALIGN_MASK; PC = PC + #r`, modulo 2^32 (R102, R29). -/
def cjTarget (pc : Word) (off : Int) : Word := pc + (immWord (applyExtension off) &&& ~~~Config.pcAlignMask)

/-- The target of a jump on register: `PC = PC + #r`, with neither extension nor mask (R141). -/
def jrTarget (pc : Word) (off : Int) : Word := pc + immWord off

/-! ## Compares -/

/-- Equality of all 32 bits (R103, R104, R105). -/
def cmpEq (a b : Word) : Bool := a == b

/-- Signed greater-than (R106, R107, R108). -/
def cmpGt (a b : Word) : Bool := decide (b.toInt < a.toInt)

/-- Unsigned greater-than (R109, R110; both operands unsigned, 90_conflicts.md C4). -/
def cmpGtu (a b : Word) : Bool := decide (b.toNat < a.toNat)

/-- Bit 0 of the register (R111). -/
def tstbit0 (a : Word) : Bool := a.getLsbD 0

/-- `Rs != 0` (R142). -/
def condNe (a : Word) : Bool := a != 0#32

/-- `Rs <= 0`, signed (R144). -/
def condLe (a : Word) : Bool := decide (a.toInt ≤ 0)

/-- `Rs == 0` (R146). -/
def condEq (a : Word) : Bool := a == 0#32

/-- `Rs >= 0`, signed (R148). -/
def condGe (a : Word) : Bool := decide (0 ≤ a.toInt)

/-! ## Vector elements (00_scope.md R11; D30, log 14) -/

/-- Element `i` of width 32: bits `32i+31 : 32i`. -/
def elem32 (x : VecVal) (i : Nat) : Word := x.getD i 0#32

/-- Element `i` of width 16: bits `16i+15 : 16i`. -/
def elem16 (x : VecVal) (i : Nat) : Half := (x.getD (i / 2) 0#32).extractLsb' (16 * (i % 2)) 16

/-- Element `i` of width 8: bits `8i+7 : 8i`. -/
def elem8 (x : VecVal) (i : Nat) : Byte := (x.getD (i / 4) 0#32).extractLsb' (8 * (i % 4)) 8

/-- The register of `n` words whose 32-bit element `i` is `f i`. -/
def ofElems32 (n : Nat) (f : Nat → Word) : VecVal := (List.range n).map f

/-- The register of `n` words whose 16-bit element `i` is `f i`. -/
def ofElems16 (n : Nat) (f : Nat → Half) : VecVal := (List.range n).map fun k => f (2 * k + 1) ++ f (2 * k)

/-! ## Shift amounts, rounding shift, saturation -/

/-- `shamt = Rt & 0x7` for 16-bit source elements (R162). -/
def shamt16 (rt : Word) : Nat := (rt.extractLsb' 0 3).toNat

/-- `shamt = Rt & 0xF` for 32-bit source elements (R162). -/
def shamt32 (rt : Word) : Nat := (rt.extractLsb' 0 4).toNat

/-- The rounding bias: `2^(n-1)` with `:rnd` and `n ≥ 1`, else 0 (R163; D15, D16, log 14). -/
def roundBias (n : Nat) (rnd : Bool) : Int := if rnd && decide (1 ≤ n) then 2 ^ (n - 1) else 0

/-- `shr(x, n, rnd) = (x + bias) asr n` in unbounded integers (R163, D17); division by the positive `2^n` rounds down, which
is `asr` (R14). -/
def shr (x : Int) (n : Nat) (rnd : Bool) : Int := (x + roundBias n rnd) / 2 ^ n

/-- `x` clamped to `lo..hi` (R160). -/
def clampTo (lo hi x : Int) : Int := if x < lo then lo else if hi < x then hi else x

/-- `sat8` (R160, D28). -/
def sat8 (x : Int) : Byte := BitVec.ofInt 8 (clampTo (-128) 127 x)

/-- `usat8` (R160). -/
def usat8 (x : Int) : Byte := BitVec.ofInt 8 (clampTo 0 255 x)

/-- `sat16` (R160). -/
def sat16 (x : Int) : Half := BitVec.ofInt 16 (clampTo (-32768) 32767 x)

/-- `usat16` (R160). -/
def usat16 (x : Int) : Half := BitVec.ofInt 16 (clampTo 0 65535 x)

/-- `trunc_16`, the conversion of the one non-saturating instruction (R164, R168; D29). -/
def trunc16 (x : Int) : Half := BitVec.ofInt 16 x

/-- The value of a signed 16-bit element `.h` (R161). -/
def valH (e : Half) : Int := e.toInt

/-- The value of an unsigned 16-bit element `.uh` (R161). -/
def valUh (e : Half) : Int := (e.toNat : Int)

/-- The value of a signed 32-bit element `.w` (R161). -/
def valW (e : Word) : Int := e.toInt

/-- The value of an unsigned 32-bit element `.uw` (R161). -/
def valUw (e : Word) : Int := (e.toNat : Int)

/-- One destination element of a 16-bit source width: high half from `Vu`, low half from `Vv` (R164). -/
def lane16 (val : Half → Int) (conv : Int → Byte) (n : Nat) (rnd : Bool) (u v : Half) : Half :=
  conv (shr (val u) n rnd) ++ conv (shr (val v) n rnd)

/-- One destination element of a 32-bit source width: high half from `Vu`, low half from `Vv` (R164). -/
def lane32 (val : Word → Int) (conv : Int → Half) (n : Nat) (rnd : Bool) (u v : Word) : Word :=
  conv (shr (val u) n rnd) ++ conv (shr (val v) n rnd)

end Sys2Proof.Machine
end

