-- ==== Sys2Proof/Machine/Flags.lean ====
section
/-! DEFINITION. Predicate values (40_compare_and_jump.md R101) and the saturation of the Add group with its flag
(43_alu32_add.md R190, R193). -/

namespace Sys2Proof.Machine

open Sys2Proof

/-- The predicate value of a truth value: `0xFF` or `0x00`, all 8 bits (R101). -/
def predValue (c : Bool) : Byte := if c then 0xFF#8 else 0x00#8

/-- `P[d].new[0]`: bit 0 of the new predicate value (R101). -/
def newBit (x : Byte) : Bool := x.getLsbD 0

/-- Whether a compare-and-jump is taken: bit 0 of the new predicate, inverted for `[!]` (R102). -/
def takes (n : Sense) (bit : Bool) : Bool :=
  match n with
  | .plain => bit
  | .inverted => !bit

/-- The sum clamped to `-2^31 .. 2^31-1` (R190). -/
def sat32Int (x : Int) : Int := clampTo (-2147483648) 2147483647 x

/-- `sat_32(x)`: the clamped value as a 32-bit two's-complement vector (R190). -/
def sat32 (x : Int) : Word := BitVec.ofInt 32 (sat32Int x)

/-- "Saturation occurs exactly when the result differs from `x`" (R190). -/
def saturates32 (x : Int) : Bool := decide (sat32Int x ≠ x)

end Sys2Proof.Machine
end

