-- ==== Sys2Proof/Machine/Alu32.lean ====
section
/-! DEFINITION. The 3 instructions of ALU32/ALU Add (43_alu32_add.md R190-R196) and their three C intrinsics (30_encoding.md
R89). Sources are read before `Rd` is written (R194, D19). -/

namespace Sys2Proof.Machine

open Sys2Proof

/-- The sum of R191: `trunc_32(s32(Rs) + apply_extension(#s))`, which wraps. -/
def addImmValue (a : Word) (s16 : Int) : Word := BitVec.ofInt 32 (a.toInt + applyExtension s16)

/-- The sum of R192: `trunc_32(Rs + Rt)`, which wraps. -/
def addRegValue (a b : Word) : Word := a + b

/-- The exact sum of R193, before saturation. -/
def exactSum (a b : Word) : Int := a.toInt + b.toInt

/-- `Rd=add(Rs,#s16)` (R191). OVF is untouched. -/
def execAddImm (rd rs : GReg) (s16 : Int) (s : State) : Host.Outcome State Fault Refusal :=
  .next (s.writeR rd (addImmValue (s.readR rs) s16)).advancePc

/-- `Rd=add(Rs,Rt)` (R192). OVF is untouched. -/
def execAddReg (rd rs rt : GReg) (s : State) : Host.Outcome State Fault Refusal :=
  .next (s.writeR rd (addRegValue (s.readR rs) (s.readR rt))).advancePc

/-- `Rd=add(Rs,Rt):sat` (R193). OVF is set when saturation occurs and is never cleared (R31). -/
def execAddRegSat (rd rs rt : GReg) (s : State) : Host.Outcome State Fault Refusal :=
  let x := exactSum (s.readR rs) (s.readR rt)
  .next ((s.writeR rd (sat32 x)).orOvf (saturates32 x)).advancePc

/-! ## Intrinsics: each returns the `Rd` of its instruction (R89, R196). Log 23. -/

/-- `Word32 Q6_R_add_RI(Word32 Rs, Word32 Is16)` (R89, R196). -/
def q6RAddRI (rs : Word) (is16 : Int) : Word := addImmValue rs is16

/-- `Word32 Q6_R_add_RR(Word32 Rs, Word32 Rt)` (R89, R196). -/
def q6RAddRR (rs rt : Word) : Word := addRegValue rs rt

/-- `Word32 Q6_R_add_RR_sat(Word32 Rs, Word32 Rt)` (R89, R196). -/
def q6RAddRRSat (rs rt : Word) : Word := sat32 (exactSum rs rt)

end Sys2Proof.Machine
end

