-- ==== Sys2Proof/Machine/CompareJump.lean ====
section
/-! DEFINITION. The 72 compare-and-jump instructions (40_compare_and_jump.md R100-R114): each is its operation's
compare (R103-R111) followed by the common jump half (R102). The hint changes nothing (R113). -/

namespace Sys2Proof.Machine

open Sys2Proof

/-- The two halves common to all 72 variants (R101, R102). The compare half writes `c` to the predicate `d`, taken or not;
the jump half tests bit 0 of the value just written, in the sense `n`. -/
def compareAndJump (d : CjPred) (n : Sense) (c : Bool) (off : Int) (s : State) : Host.Outcome State Fault Refusal :=
  let new := predValue c
  let s' := s.writeP d.reg new
  .next (if takes n (newBit new) then s'.setPc (cjTarget s.pc off) else s'.advancePc)

/-- `p0=cmp.eq(Rs,#-1); if (p0.new) jump:nt #r9:2` (R103) -/
def execP0CmpEqN1NewNt (rs : GReg) (off : Int) (s : State) : Host.Outcome State Fault Refusal :=
  compareAndJump .p0 .plain (cmpEq (s.readR rs) minusOne) off s

/-- `p0=cmp.eq(Rs,#-1); if (p0.new) jump:t #r9:2` (R103) -/
def execP0CmpEqN1NewT (rs : GReg) (off : Int) (s : State) : Host.Outcome State Fault Refusal :=
  compareAndJump .p0 .plain (cmpEq (s.readR rs) minusOne) off s

/-- `p0=cmp.eq(Rs,#-1); if (!p0.new) jump:nt #r9:2` (R103) -/
def execP0CmpEqN1NotNewNt (rs : GReg) (off : Int) (s : State) : Host.Outcome State Fault Refusal :=
  compareAndJump .p0 .inverted (cmpEq (s.readR rs) minusOne) off s

/-- `p0=cmp.eq(Rs,#-1); if (!p0.new) jump:t #r9:2` (R103) -/
def execP0CmpEqN1NotNewT (rs : GReg) (off : Int) (s : State) : Host.Outcome State Fault Refusal :=
  compareAndJump .p0 .inverted (cmpEq (s.readR rs) minusOne) off s

/-- `p1=cmp.eq(Rs,#-1); if (p1.new) jump:nt #r9:2` (R103) -/
def execP1CmpEqN1NewNt (rs : GReg) (off : Int) (s : State) : Host.Outcome State Fault Refusal :=
  compareAndJump .p1 .plain (cmpEq (s.readR rs) minusOne) off s

/-- `p1=cmp.eq(Rs,#-1); if (p1.new) jump:t #r9:2` (R103) -/
def execP1CmpEqN1NewT (rs : GReg) (off : Int) (s : State) : Host.Outcome State Fault Refusal :=
  compareAndJump .p1 .plain (cmpEq (s.readR rs) minusOne) off s

/-- `p1=cmp.eq(Rs,#-1); if (!p1.new) jump:nt #r9:2` (R103) -/
def execP1CmpEqN1NotNewNt (rs : GReg) (off : Int) (s : State) : Host.Outcome State Fault Refusal :=
  compareAndJump .p1 .inverted (cmpEq (s.readR rs) minusOne) off s

/-- `p1=cmp.eq(Rs,#-1); if (!p1.new) jump:t #r9:2` (R103) -/
def execP1CmpEqN1NotNewT (rs : GReg) (off : Int) (s : State) : Host.Outcome State Fault Refusal :=
  compareAndJump .p1 .inverted (cmpEq (s.readR rs) minusOne) off s

/-- `p0=cmp.eq(Rs,#U5); if (p0.new) jump:nt #r9:2` (R104) -/
def execP0CmpEqU5NewNt (rs : GReg) (u : Nat) (off : Int) (s : State) : Host.Outcome State Fault Refusal :=
  compareAndJump .p0 .plain (cmpEq (s.readR rs) (immU5 u)) off s

/-- `p0=cmp.eq(Rs,#U5); if (p0.new) jump:t #r9:2` (R104) -/
def execP0CmpEqU5NewT (rs : GReg) (u : Nat) (off : Int) (s : State) : Host.Outcome State Fault Refusal :=
  compareAndJump .p0 .plain (cmpEq (s.readR rs) (immU5 u)) off s

/-- `p0=cmp.eq(Rs,#U5); if (!p0.new) jump:nt #r9:2` (R104) -/
def execP0CmpEqU5NotNewNt (rs : GReg) (u : Nat) (off : Int) (s : State) : Host.Outcome State Fault Refusal :=
  compareAndJump .p0 .inverted (cmpEq (s.readR rs) (immU5 u)) off s

/-- `p0=cmp.eq(Rs,#U5); if (!p0.new) jump:t #r9:2` (R104) -/
def execP0CmpEqU5NotNewT (rs : GReg) (u : Nat) (off : Int) (s : State) : Host.Outcome State Fault Refusal :=
  compareAndJump .p0 .inverted (cmpEq (s.readR rs) (immU5 u)) off s

/-- `p1=cmp.eq(Rs,#U5); if (p1.new) jump:nt #r9:2` (R104) -/
def execP1CmpEqU5NewNt (rs : GReg) (u : Nat) (off : Int) (s : State) : Host.Outcome State Fault Refusal :=
  compareAndJump .p1 .plain (cmpEq (s.readR rs) (immU5 u)) off s

/-- `p1=cmp.eq(Rs,#U5); if (p1.new) jump:t #r9:2` (R104) -/
def execP1CmpEqU5NewT (rs : GReg) (u : Nat) (off : Int) (s : State) : Host.Outcome State Fault Refusal :=
  compareAndJump .p1 .plain (cmpEq (s.readR rs) (immU5 u)) off s

/-- `p1=cmp.eq(Rs,#U5); if (!p1.new) jump:nt #r9:2` (R104) -/
def execP1CmpEqU5NotNewNt (rs : GReg) (u : Nat) (off : Int) (s : State) : Host.Outcome State Fault Refusal :=
  compareAndJump .p1 .inverted (cmpEq (s.readR rs) (immU5 u)) off s

/-- `p1=cmp.eq(Rs,#U5); if (!p1.new) jump:t #r9:2` (R104) -/
def execP1CmpEqU5NotNewT (rs : GReg) (u : Nat) (off : Int) (s : State) : Host.Outcome State Fault Refusal :=
  compareAndJump .p1 .inverted (cmpEq (s.readR rs) (immU5 u)) off s

/-- `p0=cmp.eq(Rs,Rt); if (p0.new) jump:nt #r9:2` (R105) -/
def execP0CmpEqRRNewNt (rs : GReg) (rt : GReg) (off : Int) (s : State) : Host.Outcome State Fault Refusal :=
  compareAndJump .p0 .plain (cmpEq (s.readR rs) (s.readR rt)) off s

/-- `p0=cmp.eq(Rs,Rt); if (p0.new) jump:t #r9:2` (R105) -/
def execP0CmpEqRRNewT (rs : GReg) (rt : GReg) (off : Int) (s : State) : Host.Outcome State Fault Refusal :=
  compareAndJump .p0 .plain (cmpEq (s.readR rs) (s.readR rt)) off s

/-- `p0=cmp.eq(Rs,Rt); if (!p0.new) jump:nt #r9:2` (R105) -/
def execP0CmpEqRRNotNewNt (rs : GReg) (rt : GReg) (off : Int) (s : State) : Host.Outcome State Fault Refusal :=
  compareAndJump .p0 .inverted (cmpEq (s.readR rs) (s.readR rt)) off s

/-- `p0=cmp.eq(Rs,Rt); if (!p0.new) jump:t #r9:2` (R105) -/
def execP0CmpEqRRNotNewT (rs : GReg) (rt : GReg) (off : Int) (s : State) : Host.Outcome State Fault Refusal :=
  compareAndJump .p0 .inverted (cmpEq (s.readR rs) (s.readR rt)) off s

/-- `p1=cmp.eq(Rs,Rt); if (p1.new) jump:nt #r9:2` (R105) -/
def execP1CmpEqRRNewNt (rs : GReg) (rt : GReg) (off : Int) (s : State) : Host.Outcome State Fault Refusal :=
  compareAndJump .p1 .plain (cmpEq (s.readR rs) (s.readR rt)) off s

/-- `p1=cmp.eq(Rs,Rt); if (p1.new) jump:t #r9:2` (R105) -/
def execP1CmpEqRRNewT (rs : GReg) (rt : GReg) (off : Int) (s : State) : Host.Outcome State Fault Refusal :=
  compareAndJump .p1 .plain (cmpEq (s.readR rs) (s.readR rt)) off s

/-- `p1=cmp.eq(Rs,Rt); if (!p1.new) jump:nt #r9:2` (R105) -/
def execP1CmpEqRRNotNewNt (rs : GReg) (rt : GReg) (off : Int) (s : State) : Host.Outcome State Fault Refusal :=
  compareAndJump .p1 .inverted (cmpEq (s.readR rs) (s.readR rt)) off s

/-- `p1=cmp.eq(Rs,Rt); if (!p1.new) jump:t #r9:2` (R105) -/
def execP1CmpEqRRNotNewT (rs : GReg) (rt : GReg) (off : Int) (s : State) : Host.Outcome State Fault Refusal :=
  compareAndJump .p1 .inverted (cmpEq (s.readR rs) (s.readR rt)) off s

/-- `p0=cmp.gt(Rs,#-1); if (p0.new) jump:nt #r9:2` (R106) -/
def execP0CmpGtN1NewNt (rs : GReg) (off : Int) (s : State) : Host.Outcome State Fault Refusal :=
  compareAndJump .p0 .plain (cmpGt (s.readR rs) minusOne) off s

/-- `p0=cmp.gt(Rs,#-1); if (p0.new) jump:t #r9:2` (R106) -/
def execP0CmpGtN1NewT (rs : GReg) (off : Int) (s : State) : Host.Outcome State Fault Refusal :=
  compareAndJump .p0 .plain (cmpGt (s.readR rs) minusOne) off s

/-- `p0=cmp.gt(Rs,#-1); if (!p0.new) jump:nt #r9:2` (R106) -/
def execP0CmpGtN1NotNewNt (rs : GReg) (off : Int) (s : State) : Host.Outcome State Fault Refusal :=
  compareAndJump .p0 .inverted (cmpGt (s.readR rs) minusOne) off s

/-- `p0=cmp.gt(Rs,#-1); if (!p0.new) jump:t #r9:2` (R106) -/
def execP0CmpGtN1NotNewT (rs : GReg) (off : Int) (s : State) : Host.Outcome State Fault Refusal :=
  compareAndJump .p0 .inverted (cmpGt (s.readR rs) minusOne) off s

/-- `p1=cmp.gt(Rs,#-1); if (p1.new) jump:nt #r9:2` (R106) -/
def execP1CmpGtN1NewNt (rs : GReg) (off : Int) (s : State) : Host.Outcome State Fault Refusal :=
  compareAndJump .p1 .plain (cmpGt (s.readR rs) minusOne) off s

/-- `p1=cmp.gt(Rs,#-1); if (p1.new) jump:t #r9:2` (R106) -/
def execP1CmpGtN1NewT (rs : GReg) (off : Int) (s : State) : Host.Outcome State Fault Refusal :=
  compareAndJump .p1 .plain (cmpGt (s.readR rs) minusOne) off s

/-- `p1=cmp.gt(Rs,#-1); if (!p1.new) jump:nt #r9:2` (R106) -/
def execP1CmpGtN1NotNewNt (rs : GReg) (off : Int) (s : State) : Host.Outcome State Fault Refusal :=
  compareAndJump .p1 .inverted (cmpGt (s.readR rs) minusOne) off s

/-- `p1=cmp.gt(Rs,#-1); if (!p1.new) jump:t #r9:2` (R106) -/
def execP1CmpGtN1NotNewT (rs : GReg) (off : Int) (s : State) : Host.Outcome State Fault Refusal :=
  compareAndJump .p1 .inverted (cmpGt (s.readR rs) minusOne) off s

/-- `p0=cmp.gt(Rs,#U5); if (p0.new) jump:nt #r9:2` (R107) -/
def execP0CmpGtU5NewNt (rs : GReg) (u : Nat) (off : Int) (s : State) : Host.Outcome State Fault Refusal :=
  compareAndJump .p0 .plain (cmpGt (s.readR rs) (immU5 u)) off s

/-- `p0=cmp.gt(Rs,#U5); if (p0.new) jump:t #r9:2` (R107) -/
def execP0CmpGtU5NewT (rs : GReg) (u : Nat) (off : Int) (s : State) : Host.Outcome State Fault Refusal :=
  compareAndJump .p0 .plain (cmpGt (s.readR rs) (immU5 u)) off s

/-- `p0=cmp.gt(Rs,#U5); if (!p0.new) jump:nt #r9:2` (R107) -/
def execP0CmpGtU5NotNewNt (rs : GReg) (u : Nat) (off : Int) (s : State) : Host.Outcome State Fault Refusal :=
  compareAndJump .p0 .inverted (cmpGt (s.readR rs) (immU5 u)) off s

/-- `p0=cmp.gt(Rs,#U5); if (!p0.new) jump:t #r9:2` (R107) -/
def execP0CmpGtU5NotNewT (rs : GReg) (u : Nat) (off : Int) (s : State) : Host.Outcome State Fault Refusal :=
  compareAndJump .p0 .inverted (cmpGt (s.readR rs) (immU5 u)) off s

/-- `p1=cmp.gt(Rs,#U5); if (p1.new) jump:nt #r9:2` (R107) -/
def execP1CmpGtU5NewNt (rs : GReg) (u : Nat) (off : Int) (s : State) : Host.Outcome State Fault Refusal :=
  compareAndJump .p1 .plain (cmpGt (s.readR rs) (immU5 u)) off s

/-- `p1=cmp.gt(Rs,#U5); if (p1.new) jump:t #r9:2` (R107) -/
def execP1CmpGtU5NewT (rs : GReg) (u : Nat) (off : Int) (s : State) : Host.Outcome State Fault Refusal :=
  compareAndJump .p1 .plain (cmpGt (s.readR rs) (immU5 u)) off s

/-- `p1=cmp.gt(Rs,#U5); if (!p1.new) jump:nt #r9:2` (R107) -/
def execP1CmpGtU5NotNewNt (rs : GReg) (u : Nat) (off : Int) (s : State) : Host.Outcome State Fault Refusal :=
  compareAndJump .p1 .inverted (cmpGt (s.readR rs) (immU5 u)) off s

/-- `p1=cmp.gt(Rs,#U5); if (!p1.new) jump:t #r9:2` (R107) -/
def execP1CmpGtU5NotNewT (rs : GReg) (u : Nat) (off : Int) (s : State) : Host.Outcome State Fault Refusal :=
  compareAndJump .p1 .inverted (cmpGt (s.readR rs) (immU5 u)) off s

/-- `p0=cmp.gt(Rs,Rt); if (p0.new) jump:nt #r9:2` (R108) -/
def execP0CmpGtRRNewNt (rs : GReg) (rt : GReg) (off : Int) (s : State) : Host.Outcome State Fault Refusal :=
  compareAndJump .p0 .plain (cmpGt (s.readR rs) (s.readR rt)) off s

/-- `p0=cmp.gt(Rs,Rt); if (p0.new) jump:t #r9:2` (R108) -/
def execP0CmpGtRRNewT (rs : GReg) (rt : GReg) (off : Int) (s : State) : Host.Outcome State Fault Refusal :=
  compareAndJump .p0 .plain (cmpGt (s.readR rs) (s.readR rt)) off s

/-- `p0=cmp.gt(Rs,Rt); if (!p0.new) jump:nt #r9:2` (R108) -/
def execP0CmpGtRRNotNewNt (rs : GReg) (rt : GReg) (off : Int) (s : State) : Host.Outcome State Fault Refusal :=
  compareAndJump .p0 .inverted (cmpGt (s.readR rs) (s.readR rt)) off s

/-- `p0=cmp.gt(Rs,Rt); if (!p0.new) jump:t #r9:2` (R108) -/
def execP0CmpGtRRNotNewT (rs : GReg) (rt : GReg) (off : Int) (s : State) : Host.Outcome State Fault Refusal :=
  compareAndJump .p0 .inverted (cmpGt (s.readR rs) (s.readR rt)) off s

/-- `p1=cmp.gt(Rs,Rt); if (p1.new) jump:nt #r9:2` (R108) -/
def execP1CmpGtRRNewNt (rs : GReg) (rt : GReg) (off : Int) (s : State) : Host.Outcome State Fault Refusal :=
  compareAndJump .p1 .plain (cmpGt (s.readR rs) (s.readR rt)) off s

/-- `p1=cmp.gt(Rs,Rt); if (p1.new) jump:t #r9:2` (R108) -/
def execP1CmpGtRRNewT (rs : GReg) (rt : GReg) (off : Int) (s : State) : Host.Outcome State Fault Refusal :=
  compareAndJump .p1 .plain (cmpGt (s.readR rs) (s.readR rt)) off s

/-- `p1=cmp.gt(Rs,Rt); if (!p1.new) jump:nt #r9:2` (R108) -/
def execP1CmpGtRRNotNewNt (rs : GReg) (rt : GReg) (off : Int) (s : State) : Host.Outcome State Fault Refusal :=
  compareAndJump .p1 .inverted (cmpGt (s.readR rs) (s.readR rt)) off s

/-- `p1=cmp.gt(Rs,Rt); if (!p1.new) jump:t #r9:2` (R108) -/
def execP1CmpGtRRNotNewT (rs : GReg) (rt : GReg) (off : Int) (s : State) : Host.Outcome State Fault Refusal :=
  compareAndJump .p1 .inverted (cmpGt (s.readR rs) (s.readR rt)) off s

/-- `p0=cmp.gtu(Rs,#U5); if (p0.new) jump:nt #r9:2` (R109) -/
def execP0CmpGtuU5NewNt (rs : GReg) (u : Nat) (off : Int) (s : State) : Host.Outcome State Fault Refusal :=
  compareAndJump .p0 .plain (cmpGtu (s.readR rs) (immU5 u)) off s

/-- `p0=cmp.gtu(Rs,#U5); if (p0.new) jump:t #r9:2` (R109) -/
def execP0CmpGtuU5NewT (rs : GReg) (u : Nat) (off : Int) (s : State) : Host.Outcome State Fault Refusal :=
  compareAndJump .p0 .plain (cmpGtu (s.readR rs) (immU5 u)) off s

/-- `p0=cmp.gtu(Rs,#U5); if (!p0.new) jump:nt #r9:2` (R109) -/
def execP0CmpGtuU5NotNewNt (rs : GReg) (u : Nat) (off : Int) (s : State) : Host.Outcome State Fault Refusal :=
  compareAndJump .p0 .inverted (cmpGtu (s.readR rs) (immU5 u)) off s

/-- `p0=cmp.gtu(Rs,#U5); if (!p0.new) jump:t #r9:2` (R109) -/
def execP0CmpGtuU5NotNewT (rs : GReg) (u : Nat) (off : Int) (s : State) : Host.Outcome State Fault Refusal :=
  compareAndJump .p0 .inverted (cmpGtu (s.readR rs) (immU5 u)) off s

/-- `p1=cmp.gtu(Rs,#U5); if (p1.new) jump:nt #r9:2` (R109) -/
def execP1CmpGtuU5NewNt (rs : GReg) (u : Nat) (off : Int) (s : State) : Host.Outcome State Fault Refusal :=
  compareAndJump .p1 .plain (cmpGtu (s.readR rs) (immU5 u)) off s

/-- `p1=cmp.gtu(Rs,#U5); if (p1.new) jump:t #r9:2` (R109) -/
def execP1CmpGtuU5NewT (rs : GReg) (u : Nat) (off : Int) (s : State) : Host.Outcome State Fault Refusal :=
  compareAndJump .p1 .plain (cmpGtu (s.readR rs) (immU5 u)) off s

/-- `p1=cmp.gtu(Rs,#U5); if (!p1.new) jump:nt #r9:2` (R109) -/
def execP1CmpGtuU5NotNewNt (rs : GReg) (u : Nat) (off : Int) (s : State) : Host.Outcome State Fault Refusal :=
  compareAndJump .p1 .inverted (cmpGtu (s.readR rs) (immU5 u)) off s

/-- `p1=cmp.gtu(Rs,#U5); if (!p1.new) jump:t #r9:2` (R109) -/
def execP1CmpGtuU5NotNewT (rs : GReg) (u : Nat) (off : Int) (s : State) : Host.Outcome State Fault Refusal :=
  compareAndJump .p1 .inverted (cmpGtu (s.readR rs) (immU5 u)) off s

/-- `p0=cmp.gtu(Rs,Rt); if (p0.new) jump:nt #r9:2` (R110) -/
def execP0CmpGtuRRNewNt (rs : GReg) (rt : GReg) (off : Int) (s : State) : Host.Outcome State Fault Refusal :=
  compareAndJump .p0 .plain (cmpGtu (s.readR rs) (s.readR rt)) off s

/-- `p0=cmp.gtu(Rs,Rt); if (p0.new) jump:t #r9:2` (R110) -/
def execP0CmpGtuRRNewT (rs : GReg) (rt : GReg) (off : Int) (s : State) : Host.Outcome State Fault Refusal :=
  compareAndJump .p0 .plain (cmpGtu (s.readR rs) (s.readR rt)) off s

/-- `p0=cmp.gtu(Rs,Rt); if (!p0.new) jump:nt #r9:2` (R110) -/
def execP0CmpGtuRRNotNewNt (rs : GReg) (rt : GReg) (off : Int) (s : State) : Host.Outcome State Fault Refusal :=
  compareAndJump .p0 .inverted (cmpGtu (s.readR rs) (s.readR rt)) off s

/-- `p0=cmp.gtu(Rs,Rt); if (!p0.new) jump:t #r9:2` (R110) -/
def execP0CmpGtuRRNotNewT (rs : GReg) (rt : GReg) (off : Int) (s : State) : Host.Outcome State Fault Refusal :=
  compareAndJump .p0 .inverted (cmpGtu (s.readR rs) (s.readR rt)) off s

/-- `p1=cmp.gtu(Rs,Rt); if (p1.new) jump:nt #r9:2` (R110) -/
def execP1CmpGtuRRNewNt (rs : GReg) (rt : GReg) (off : Int) (s : State) : Host.Outcome State Fault Refusal :=
  compareAndJump .p1 .plain (cmpGtu (s.readR rs) (s.readR rt)) off s

/-- `p1=cmp.gtu(Rs,Rt); if (p1.new) jump:t #r9:2` (R110) -/
def execP1CmpGtuRRNewT (rs : GReg) (rt : GReg) (off : Int) (s : State) : Host.Outcome State Fault Refusal :=
  compareAndJump .p1 .plain (cmpGtu (s.readR rs) (s.readR rt)) off s

/-- `p1=cmp.gtu(Rs,Rt); if (!p1.new) jump:nt #r9:2` (R110) -/
def execP1CmpGtuRRNotNewNt (rs : GReg) (rt : GReg) (off : Int) (s : State) : Host.Outcome State Fault Refusal :=
  compareAndJump .p1 .inverted (cmpGtu (s.readR rs) (s.readR rt)) off s

/-- `p1=cmp.gtu(Rs,Rt); if (!p1.new) jump:t #r9:2` (R110) -/
def execP1CmpGtuRRNotNewT (rs : GReg) (rt : GReg) (off : Int) (s : State) : Host.Outcome State Fault Refusal :=
  compareAndJump .p1 .inverted (cmpGtu (s.readR rs) (s.readR rt)) off s

/-- `p0=tstbit(Rs,#0); if (p0.new) jump:nt #r9:2` (R111) -/
def execP0TstbitNewNt (rs : GReg) (off : Int) (s : State) : Host.Outcome State Fault Refusal :=
  compareAndJump .p0 .plain (tstbit0 (s.readR rs)) off s

/-- `p0=tstbit(Rs,#0); if (p0.new) jump:t #r9:2` (R111) -/
def execP0TstbitNewT (rs : GReg) (off : Int) (s : State) : Host.Outcome State Fault Refusal :=
  compareAndJump .p0 .plain (tstbit0 (s.readR rs)) off s

/-- `p0=tstbit(Rs,#0); if (!p0.new) jump:nt #r9:2` (R111) -/
def execP0TstbitNotNewNt (rs : GReg) (off : Int) (s : State) : Host.Outcome State Fault Refusal :=
  compareAndJump .p0 .inverted (tstbit0 (s.readR rs)) off s

/-- `p0=tstbit(Rs,#0); if (!p0.new) jump:t #r9:2` (R111) -/
def execP0TstbitNotNewT (rs : GReg) (off : Int) (s : State) : Host.Outcome State Fault Refusal :=
  compareAndJump .p0 .inverted (tstbit0 (s.readR rs)) off s

/-- `p1=tstbit(Rs,#0); if (p1.new) jump:nt #r9:2` (R111) -/
def execP1TstbitNewNt (rs : GReg) (off : Int) (s : State) : Host.Outcome State Fault Refusal :=
  compareAndJump .p1 .plain (tstbit0 (s.readR rs)) off s

/-- `p1=tstbit(Rs,#0); if (p1.new) jump:t #r9:2` (R111) -/
def execP1TstbitNewT (rs : GReg) (off : Int) (s : State) : Host.Outcome State Fault Refusal :=
  compareAndJump .p1 .plain (tstbit0 (s.readR rs)) off s

/-- `p1=tstbit(Rs,#0); if (!p1.new) jump:nt #r9:2` (R111) -/
def execP1TstbitNotNewNt (rs : GReg) (off : Int) (s : State) : Host.Outcome State Fault Refusal :=
  compareAndJump .p1 .inverted (tstbit0 (s.readR rs)) off s

/-- `p1=tstbit(Rs,#0); if (!p1.new) jump:t #r9:2` (R111) -/
def execP1TstbitNotNewT (rs : GReg) (off : Int) (s : State) : Host.Outcome State Fault Refusal :=
  compareAndJump .p1 .inverted (tstbit0 (s.readR rs)) off s

end Sys2Proof.Machine
end

