-- ==== Sys2Proof/Machine/Hvx.lean ====
section
/-! DEFINITION. The 13 HVX narrowing shifts `vasr` (42_hvx_vasr_narrow.md R160-R180). They write one vector register and
`pc`, and nothing else: no scalar register, no predicate, no flag (R178, D18). -/

namespace Sys2Proof.Machine

open Sys2Proof

/-- The lane structure of R164 for 16-bit source elements: the sources are read in full before `Vd` is written (D19). -/
def vasr16 (val : Half → Int) (conv : Int → Byte) (rnd : Bool) (vd vu vv : VReg) (rt : GReg) (s : State) :
    Host.Outcome State Fault Refusal :=
  let u := s.readV vu
  let v := s.readV vv
  let n := shamt16 (s.readR rt)
  let d := ofElems16 s.params.vlenWords fun i => lane16 val conv n rnd (elem16 u i) (elem16 v i)
  .next (s.writeV vd d).advancePc

/-- The lane structure of R164 for 32-bit source elements. -/
def vasr32 (val : Word → Int) (conv : Int → Half) (rnd : Bool) (vd vu vv : VReg) (rt : GReg) (s : State) :
    Host.Outcome State Fault Refusal :=
  let u := s.readV vu
  let v := s.readV vv
  let n := shamt32 (s.readR rt)
  let d := ofElems32 s.params.vlenWords fun i => lane32 val conv n rnd (elem32 u i) (elem32 v i)
  .next (s.writeV vd d).advancePc

/-- `Vd.b=vasr(Vu.h,Vv.h,Rt):sat` (R165) -/
def execVasrBHSat (vd vu vv : VReg) (rt : GReg) (s : State) : Host.Outcome State Fault Refusal :=
  vasr16 valH sat8 false vd vu vv rt s

/-- `Vd.b=vasr(Vu.h,Vv.h,Rt):rnd:sat` (R166) -/
def execVasrBHRndSat (vd vu vv : VReg) (rt : GReg) (s : State) : Host.Outcome State Fault Refusal :=
  vasr16 valH sat8 true vd vu vv rt s

/-- `Vd.h=vasr(Vu.w,Vv.w,Rt):rnd:sat` (R167) -/
def execVasrHWRndSat (vd vu vv : VReg) (rt : GReg) (s : State) : Host.Outcome State Fault Refusal :=
  vasr32 valW sat16 true vd vu vv rt s

/-- `Vd.h=vasr(Vu.w,Vv.w,Rt)` (R168) -/
def execVasrHW (vd vu vv : VReg) (rt : GReg) (s : State) : Host.Outcome State Fault Refusal :=
  vasr32 valW trunc16 false vd vu vv rt s

/-- `Vd.h=vasr(Vu.w,Vv.w,Rt):sat` (R169) -/
def execVasrHWSat (vd vu vv : VReg) (rt : GReg) (s : State) : Host.Outcome State Fault Refusal :=
  vasr32 valW sat16 false vd vu vv rt s

/-- `Vd.ub=vasr(Vu.h,Vv.h,Rt):sat` (R170) -/
def execVasrUbHSat (vd vu vv : VReg) (rt : GReg) (s : State) : Host.Outcome State Fault Refusal :=
  vasr16 valH usat8 false vd vu vv rt s

/-- `Vd.ub=vasr(Vu.h,Vv.h,Rt):rnd:sat` (R171) -/
def execVasrUbHRndSat (vd vu vv : VReg) (rt : GReg) (s : State) : Host.Outcome State Fault Refusal :=
  vasr16 valH usat8 true vd vu vv rt s

/-- `Vd.ub=vasr(Vu.uh,Vv.uh,Rt):sat` (R172) -/
def execVasrUbUhSat (vd vu vv : VReg) (rt : GReg) (s : State) : Host.Outcome State Fault Refusal :=
  vasr16 valUh usat8 false vd vu vv rt s

/-- `Vd.ub=vasr(Vu.uh,Vv.uh,Rt):rnd:sat` (R173) -/
def execVasrUbUhRndSat (vd vu vv : VReg) (rt : GReg) (s : State) : Host.Outcome State Fault Refusal :=
  vasr16 valUh usat8 true vd vu vv rt s

/-- `Vd.uh=vasr(Vu.uw,Vv.uw,Rt):sat` (R174) -/
def execVasrUhUwSat (vd vu vv : VReg) (rt : GReg) (s : State) : Host.Outcome State Fault Refusal :=
  vasr32 valUw usat16 false vd vu vv rt s

/-- `Vd.uh=vasr(Vu.uw,Vv.uw,Rt):rnd:sat` (R175) -/
def execVasrUhUwRndSat (vd vu vv : VReg) (rt : GReg) (s : State) : Host.Outcome State Fault Refusal :=
  vasr32 valUw usat16 true vd vu vv rt s

/-- `Vd.uh=vasr(Vu.w,Vv.w,Rt):sat` (R176) -/
def execVasrUhWSat (vd vu vv : VReg) (rt : GReg) (s : State) : Host.Outcome State Fault Refusal :=
  vasr32 valW usat16 false vd vu vv rt s

/-- `Vd.uh=vasr(Vu.w,Vv.w,Rt):rnd:sat` (R177) -/
def execVasrUhWRndSat (vd vu vv : VReg) (rt : GReg) (s : State) : Host.Outcome State Fault Refusal :=
  vasr32 valW usat16 true vd vu vv rt s

end Sys2Proof.Machine
end

