-- ==== Sys2Proof/Machine/JumpReg.lean ====
section
/-! DEFINITION. The 8 jump-on-register instructions (41_jump_on_register.md R140-R151). Nothing is written except `pc`
(R140); the hint changes nothing (R150). -/

namespace Sys2Proof.Machine

open Sys2Proof

/-- Jump by `off` when the condition holds, else fall through (R141). -/
def jumpOnRegister (cond : Bool) (off : Int) (s : State) : Host.Outcome State Fault Refusal :=
  .next (if cond then s.setPc (jrTarget s.pc off) else s.advancePc)

/-- `if (Rs!=#0) jump:nt #r13:2` (R142) -/
def execJumpNeNt (rs : GReg) (off : Int) (s : State) : Host.Outcome State Fault Refusal :=
  jumpOnRegister (condNe (s.readR rs)) off s

/-- `if (Rs!=#0) jump:t #r13:2` (R143) -/
def execJumpNeT (rs : GReg) (off : Int) (s : State) : Host.Outcome State Fault Refusal :=
  jumpOnRegister (condNe (s.readR rs)) off s

/-- `if (Rs<=#0) jump:nt #r13:2` (R144) -/
def execJumpLeNt (rs : GReg) (off : Int) (s : State) : Host.Outcome State Fault Refusal :=
  jumpOnRegister (condLe (s.readR rs)) off s

/-- `if (Rs<=#0) jump:t #r13:2` (R145) -/
def execJumpLeT (rs : GReg) (off : Int) (s : State) : Host.Outcome State Fault Refusal :=
  jumpOnRegister (condLe (s.readR rs)) off s

/-- `if (Rs==#0) jump:nt #r13:2` (R146) -/
def execJumpEqNt (rs : GReg) (off : Int) (s : State) : Host.Outcome State Fault Refusal :=
  jumpOnRegister (condEq (s.readR rs)) off s

/-- `if (Rs==#0) jump:t #r13:2` (R147) -/
def execJumpEqT (rs : GReg) (off : Int) (s : State) : Host.Outcome State Fault Refusal :=
  jumpOnRegister (condEq (s.readR rs)) off s

/-- `if (Rs>=#0) jump:nt #r13:2` (R148) -/
def execJumpGeNt (rs : GReg) (off : Int) (s : State) : Host.Outcome State Fault Refusal :=
  jumpOnRegister (condGe (s.readR rs)) off s

/-- `if (Rs>=#0) jump:t #r13:2` (R149) -/
def execJumpGeT (rs : GReg) (off : Int) (s : State) : Host.Outcome State Fault Refusal :=
  jumpOnRegister (condGe (s.readR rs)) off s

end Sys2Proof.Machine
end

