-- ==== Sys2Proof/Machine/Dispatch.lean ====
section
/-! DEFINITION. The dispatch: one arm per constructor of `Instr`. -/

namespace Sys2Proof.Machine

def exec (i : Instr) (s : State) : Host.Outcome State Fault Refusal :=
  match i with
  | .p0CmpEqN1NewNt rs off => Sys2Proof.Machine.execP0CmpEqN1NewNt rs off s
  | .p0CmpEqN1NewT rs off => Sys2Proof.Machine.execP0CmpEqN1NewT rs off s
  | .p0CmpEqN1NotNewNt rs off => Sys2Proof.Machine.execP0CmpEqN1NotNewNt rs off s
  | .p0CmpEqN1NotNewT rs off => Sys2Proof.Machine.execP0CmpEqN1NotNewT rs off s
  | .p1CmpEqN1NewNt rs off => Sys2Proof.Machine.execP1CmpEqN1NewNt rs off s
  | .p1CmpEqN1NewT rs off => Sys2Proof.Machine.execP1CmpEqN1NewT rs off s
  | .p1CmpEqN1NotNewNt rs off => Sys2Proof.Machine.execP1CmpEqN1NotNewNt rs off s
  | .p1CmpEqN1NotNewT rs off => Sys2Proof.Machine.execP1CmpEqN1NotNewT rs off s
  | .p0CmpEqU5NewNt rs u off => Sys2Proof.Machine.execP0CmpEqU5NewNt rs u off s
  | .p0CmpEqU5NewT rs u off => Sys2Proof.Machine.execP0CmpEqU5NewT rs u off s
  | .p0CmpEqU5NotNewNt rs u off => Sys2Proof.Machine.execP0CmpEqU5NotNewNt rs u off s
  | .p0CmpEqU5NotNewT rs u off => Sys2Proof.Machine.execP0CmpEqU5NotNewT rs u off s
  | .p1CmpEqU5NewNt rs u off => Sys2Proof.Machine.execP1CmpEqU5NewNt rs u off s
  | .p1CmpEqU5NewT rs u off => Sys2Proof.Machine.execP1CmpEqU5NewT rs u off s
  | .p1CmpEqU5NotNewNt rs u off => Sys2Proof.Machine.execP1CmpEqU5NotNewNt rs u off s
  | .p1CmpEqU5NotNewT rs u off => Sys2Proof.Machine.execP1CmpEqU5NotNewT rs u off s
  | .p0CmpEqRRNewNt rs rt off => Sys2Proof.Machine.execP0CmpEqRRNewNt rs rt off s
  | .p0CmpEqRRNewT rs rt off => Sys2Proof.Machine.execP0CmpEqRRNewT rs rt off s
  | .p0CmpEqRRNotNewNt rs rt off => Sys2Proof.Machine.execP0CmpEqRRNotNewNt rs rt off s
  | .p0CmpEqRRNotNewT rs rt off => Sys2Proof.Machine.execP0CmpEqRRNotNewT rs rt off s
  | .p1CmpEqRRNewNt rs rt off => Sys2Proof.Machine.execP1CmpEqRRNewNt rs rt off s
  | .p1CmpEqRRNewT rs rt off => Sys2Proof.Machine.execP1CmpEqRRNewT rs rt off s
  | .p1CmpEqRRNotNewNt rs rt off => Sys2Proof.Machine.execP1CmpEqRRNotNewNt rs rt off s
  | .p1CmpEqRRNotNewT rs rt off => Sys2Proof.Machine.execP1CmpEqRRNotNewT rs rt off s
  | .p0CmpGtN1NewNt rs off => Sys2Proof.Machine.execP0CmpGtN1NewNt rs off s
  | .p0CmpGtN1NewT rs off => Sys2Proof.Machine.execP0CmpGtN1NewT rs off s
  | .p0CmpGtN1NotNewNt rs off => Sys2Proof.Machine.execP0CmpGtN1NotNewNt rs off s
  | .p0CmpGtN1NotNewT rs off => Sys2Proof.Machine.execP0CmpGtN1NotNewT rs off s
  | .p1CmpGtN1NewNt rs off => Sys2Proof.Machine.execP1CmpGtN1NewNt rs off s
  | .p1CmpGtN1NewT rs off => Sys2Proof.Machine.execP1CmpGtN1NewT rs off s
  | .p1CmpGtN1NotNewNt rs off => Sys2Proof.Machine.execP1CmpGtN1NotNewNt rs off s
  | .p1CmpGtN1NotNewT rs off => Sys2Proof.Machine.execP1CmpGtN1NotNewT rs off s
  | .p0CmpGtU5NewNt rs u off => Sys2Proof.Machine.execP0CmpGtU5NewNt rs u off s
  | .p0CmpGtU5NewT rs u off => Sys2Proof.Machine.execP0CmpGtU5NewT rs u off s
  | .p0CmpGtU5NotNewNt rs u off => Sys2Proof.Machine.execP0CmpGtU5NotNewNt rs u off s
  | .p0CmpGtU5NotNewT rs u off => Sys2Proof.Machine.execP0CmpGtU5NotNewT rs u off s
  | .p1CmpGtU5NewNt rs u off => Sys2Proof.Machine.execP1CmpGtU5NewNt rs u off s
  | .p1CmpGtU5NewT rs u off => Sys2Proof.Machine.execP1CmpGtU5NewT rs u off s
  | .p1CmpGtU5NotNewNt rs u off => Sys2Proof.Machine.execP1CmpGtU5NotNewNt rs u off s
  | .p1CmpGtU5NotNewT rs u off => Sys2Proof.Machine.execP1CmpGtU5NotNewT rs u off s
  | .p0CmpGtRRNewNt rs rt off => Sys2Proof.Machine.execP0CmpGtRRNewNt rs rt off s
  | .p0CmpGtRRNewT rs rt off => Sys2Proof.Machine.execP0CmpGtRRNewT rs rt off s
  | .p0CmpGtRRNotNewNt rs rt off => Sys2Proof.Machine.execP0CmpGtRRNotNewNt rs rt off s
  | .p0CmpGtRRNotNewT rs rt off => Sys2Proof.Machine.execP0CmpGtRRNotNewT rs rt off s
  | .p1CmpGtRRNewNt rs rt off => Sys2Proof.Machine.execP1CmpGtRRNewNt rs rt off s
  | .p1CmpGtRRNewT rs rt off => Sys2Proof.Machine.execP1CmpGtRRNewT rs rt off s
  | .p1CmpGtRRNotNewNt rs rt off => Sys2Proof.Machine.execP1CmpGtRRNotNewNt rs rt off s
  | .p1CmpGtRRNotNewT rs rt off => Sys2Proof.Machine.execP1CmpGtRRNotNewT rs rt off s
  | .p0CmpGtuU5NewNt rs u off => Sys2Proof.Machine.execP0CmpGtuU5NewNt rs u off s
  | .p0CmpGtuU5NewT rs u off => Sys2Proof.Machine.execP0CmpGtuU5NewT rs u off s
  | .p0CmpGtuU5NotNewNt rs u off => Sys2Proof.Machine.execP0CmpGtuU5NotNewNt rs u off s
  | .p0CmpGtuU5NotNewT rs u off => Sys2Proof.Machine.execP0CmpGtuU5NotNewT rs u off s
  | .p1CmpGtuU5NewNt rs u off => Sys2Proof.Machine.execP1CmpGtuU5NewNt rs u off s
  | .p1CmpGtuU5NewT rs u off => Sys2Proof.Machine.execP1CmpGtuU5NewT rs u off s
  | .p1CmpGtuU5NotNewNt rs u off => Sys2Proof.Machine.execP1CmpGtuU5NotNewNt rs u off s
  | .p1CmpGtuU5NotNewT rs u off => Sys2Proof.Machine.execP1CmpGtuU5NotNewT rs u off s
  | .p0CmpGtuRRNewNt rs rt off => Sys2Proof.Machine.execP0CmpGtuRRNewNt rs rt off s
  | .p0CmpGtuRRNewT rs rt off => Sys2Proof.Machine.execP0CmpGtuRRNewT rs rt off s
  | .p0CmpGtuRRNotNewNt rs rt off => Sys2Proof.Machine.execP0CmpGtuRRNotNewNt rs rt off s
  | .p0CmpGtuRRNotNewT rs rt off => Sys2Proof.Machine.execP0CmpGtuRRNotNewT rs rt off s
  | .p1CmpGtuRRNewNt rs rt off => Sys2Proof.Machine.execP1CmpGtuRRNewNt rs rt off s
  | .p1CmpGtuRRNewT rs rt off => Sys2Proof.Machine.execP1CmpGtuRRNewT rs rt off s
  | .p1CmpGtuRRNotNewNt rs rt off => Sys2Proof.Machine.execP1CmpGtuRRNotNewNt rs rt off s
  | .p1CmpGtuRRNotNewT rs rt off => Sys2Proof.Machine.execP1CmpGtuRRNotNewT rs rt off s
  | .p0TstbitNewNt rs off => Sys2Proof.Machine.execP0TstbitNewNt rs off s
  | .p0TstbitNewT rs off => Sys2Proof.Machine.execP0TstbitNewT rs off s
  | .p0TstbitNotNewNt rs off => Sys2Proof.Machine.execP0TstbitNotNewNt rs off s
  | .p0TstbitNotNewT rs off => Sys2Proof.Machine.execP0TstbitNotNewT rs off s
  | .p1TstbitNewNt rs off => Sys2Proof.Machine.execP1TstbitNewNt rs off s
  | .p1TstbitNewT rs off => Sys2Proof.Machine.execP1TstbitNewT rs off s
  | .p1TstbitNotNewNt rs off => Sys2Proof.Machine.execP1TstbitNotNewNt rs off s
  | .p1TstbitNotNewT rs off => Sys2Proof.Machine.execP1TstbitNotNewT rs off s
  | .jumpNeNt rs off => Sys2Proof.Machine.execJumpNeNt rs off s
  | .jumpNeT rs off => Sys2Proof.Machine.execJumpNeT rs off s
  | .jumpLeNt rs off => Sys2Proof.Machine.execJumpLeNt rs off s
  | .jumpLeT rs off => Sys2Proof.Machine.execJumpLeT rs off s
  | .jumpEqNt rs off => Sys2Proof.Machine.execJumpEqNt rs off s
  | .jumpEqT rs off => Sys2Proof.Machine.execJumpEqT rs off s
  | .jumpGeNt rs off => Sys2Proof.Machine.execJumpGeNt rs off s
  | .jumpGeT rs off => Sys2Proof.Machine.execJumpGeT rs off s
  | .addImm rd rs s16 => Sys2Proof.Machine.execAddImm rd rs s16 s
  | .addReg rd rs rt => Sys2Proof.Machine.execAddReg rd rs rt s
  | .addRegSat rd rs rt => Sys2Proof.Machine.execAddRegSat rd rs rt s
  | .vasrBHSat vd vu vv rt => Sys2Proof.Machine.execVasrBHSat vd vu vv rt s
  | .vasrBHRndSat vd vu vv rt => Sys2Proof.Machine.execVasrBHRndSat vd vu vv rt s
  | .vasrHWRndSat vd vu vv rt => Sys2Proof.Machine.execVasrHWRndSat vd vu vv rt s
  | .vasrHW vd vu vv rt => Sys2Proof.Machine.execVasrHW vd vu vv rt s
  | .vasrHWSat vd vu vv rt => Sys2Proof.Machine.execVasrHWSat vd vu vv rt s
  | .vasrUbHSat vd vu vv rt => Sys2Proof.Machine.execVasrUbHSat vd vu vv rt s
  | .vasrUbHRndSat vd vu vv rt => Sys2Proof.Machine.execVasrUbHRndSat vd vu vv rt s
  | .vasrUbUhSat vd vu vv rt => Sys2Proof.Machine.execVasrUbUhSat vd vu vv rt s
  | .vasrUbUhRndSat vd vu vv rt => Sys2Proof.Machine.execVasrUbUhRndSat vd vu vv rt s
  | .vasrUhUwSat vd vu vv rt => Sys2Proof.Machine.execVasrUhUwSat vd vu vv rt s
  | .vasrUhUwRndSat vd vu vv rt => Sys2Proof.Machine.execVasrUhUwRndSat vd vu vv rt s
  | .vasrUhWSat vd vu vv rt => Sys2Proof.Machine.execVasrUhWSat vd vu vv rt s
  | .vasrUhWRndSat vd vu vv rt => Sys2Proof.Machine.execVasrUhWRndSat vd vu vv rt s

end Sys2Proof.Machine
end

