-- ==== Sys2Proof/Machine/Fetch.lean ====
section
/-! DEFINITION. Fetching and decoding the instruction at `pc` in the order of checks of 60_exceptions.md R202, the end of
a run (70_reset_and_hazards.md R226), and how one instruction is placed where the next step fetches it. -/

namespace Sys2Proof.Machine

open Sys2Proof

/-- "A state is final exactly when `pc = HALT_PC`" (R226). -/
def State.final (s : State) : Bool := s.pc == s.params.haltPc

/-- Whether a row counts as admitted under the run's `ADMIT_UNSOURCED_ENCODINGS` (30_encoding.md R84). -/
def admits (p : Params) (r : Row) : Bool :=
  match r.provenance with
  | .source => true
  | .generalKnowledge => p.admitUnsourced

/-- Checks (2) to (5) of R202: the instruction at `pc`, or the reason there is none. Check (1), `pc = HALT_PC`, is the step's. -/
def fetchInstr (s : State) : Host.Outcome Instr Fault Refusal :=
  match s.params.text.fetch s.pc with
  | none => .fault (.fetchOutsideText s.pc)
  | some w =>
    match decodeRow w with
    | .error (.parseNotSingle w) => .refused (.parseNotSingle w)
    | .error (.noSuchEncoding w) => .refused (.noSuchEncoding w)
    | .ok r => if admits s.params r then .next (r.build w) else .refused (.unsourcedEncoding w)

/-- Whether a word selects a row whose bits are not from the source. -/
def isUnsourced (w : Word) : Bool :=
  match decodeRow w with
  | .ok r => r.provenance == .generalKnowledge
  | .error _ => false

/-- Set all that running the word `w` as the very next instruction takes: the word stands in the text at `pc`;
`ADMIT_UNSOURCED_ENCODINGS` is on if the word's row needs it; and `HALT_PC`, if it was `pc`, moves to the next word. It
stands for the launch, which supplies all three (R227). Log 8. -/
def State.placeInstruction (s : State) (w : Word) : State :=
  { s with params :=
    { s.params with
      text := s.params.text.writeWord s.pc w
      haltPc := if s.final then s.pc + 4#32 else s.params.haltPc
      admitUnsourced := s.params.admitUnsourced || isUnsourced w } }

end Sys2Proof.Machine
end

