-- ==== Sys2Proof/Machine/Step.lean ====
section
/-! DEFINITION. One step of the machine (60_exceptions.md R202, R203). -/

namespace Sys2Proof.Machine

open Sys2Proof

/-- One step: in a final state nothing is fetched and the state stays as it is (70_reset_and_hazards.md R226; log 9);
otherwise the instruction at `pc` is fetched, decoded and executed (R202). -/
def step (s : State) : Host.Outcome State Fault Refusal :=
  if s.final then .next s
  else
    match fetchInstr s with
    | .next i => exec i s
    | .fault f => .fault f
    | .refused r => .refused r

/-- `s` with the instruction whose `nbits` bits are `w` (higher bits 0) placed where the next step fetches it, and with all
else that running it takes (log 8). -/
def State.withFetchWord (s : State) (nbits w : Nat) : State :=
  s.placeInstruction (BitVec.ofNat 32 (w % 2 ^ nbits))

end Sys2Proof.Machine
end

