-- ==== Sys2Proof/Machine/Launch.lean ====
section
/-! DEFINITION. The launch: the state a host hands over before a run (10_state.md R38, 70_reset_and_hazards.md R220, R221,
R227). The spec describes no hardware reset; a launch is its only beginning. -/

namespace Sys2Proof.Machine

open Sys2Proof

/-- What the host supplies before a run (R227; 92_eei_decisions.md, "Open parameters, in one place"). -/
structure Launch where
  /-- `ENTRY_PC` -/
  entryPc : Word
  /-- `HALT_PC` -/
  haltPc : Word
  /-- `text`: words by address. The spec's text is a partial map (R51), which gives an address one word at most; a list that
  names one address twice is log 22's. -/
  text : List (Word × Word)
  /-- `VLEN_BITS` / 32. The spec admits positive values only (R6, D14) and does not say what a launch with 0 does; log 22. -/
  vlenWords : Nat
  /-- `ADMIT_UNSOURCED_ENCODINGS` -/
  admitUnsourced : Bool
  /-- `LAUNCH_R` -/
  launchR : List (GReg × Word)
  /-- `LAUNCH_P` -/
  launchP : List (PReg × Byte)
  /-- `LAUNCH_V` -/
  launchV : List (VReg × VecVal)
  /-- `LAUNCH_OVF` -/
  launchOvf : Option Bool
deriving DecidableEq, Repr

/-- What the spec asks of the parameters beside the alignment that the launch itself checks: `VLEN_BITS` is positive (R6)
and every address of the text is a multiple of 4 (R51, R221). It does not ask that the text's addresses differ (log 22). -/
def Launch.wf (l : Launch) : Bool := decide (0 < l.vlenWords) && l.text.all fun c => aligned c.1

/-- Every parameter at its default (00_scope.md R6; logs 2, 3): the launch that gives the reset state. -/
def Launch.default : Launch :=
  { entryPc := Config.defaultEntryPc, haltPc := Config.defaultHaltPc, text := [], vlenWords := Config.defaultVlenWords,
    admitUnsourced := Config.defaultAdmitUnsourced, launchR := [], launchP := [], launchV := [], launchOvf := none }

/-- The program text as bytes (R51, R53). DESIGN CHOICE: where the list names one address twice, of which the spec does not say
what a launch does, the later word replaces the earlier. Log 22. -/
def loadText (cs : List (Word × Word)) : Memory := cs.foldl (fun m c => m.writeWord c.1 c.2) []

/-- A vector value of exactly `n` words: missing words are 0, words past `n` are dropped (log 22). -/
def fitVec (n : Nat) (x : VecVal) : VecVal := (List.range n).map fun i => x.getD i 0#32

/-- The state before the launch's own register values: every register at the value the model names (log 1). -/
def Launch.blank (l : Launch) : State :=
  { r := Vector.replicate 32 0#32
    p := Vector.replicate 4 0#8
    v := Vector.replicate 32 (List.replicate l.vlenWords 0#32)
    ovf := l.launchOvf.getD false
    pc := l.entryPc
    params := { text := loadText l.text, haltPc := l.haltPc, vlenWords := l.vlenWords, admitUnsourced := l.admitUnsourced } }

/-- The launch state of R38, with the register values the host gives (a later entry for a register replaces an earlier one). -/
def Launch.state (l : Launch) : State :=
  let s := l.launchR.foldl (fun s c => s.writeR c.1 c.2) l.blank
  let s := l.launchP.foldl (fun s c => s.writeP c.1 c.2) s
  l.launchV.foldl (fun s c => s.writeV c.1 (fitVec l.vlenWords c.2)) s

/-- The launch: refused when `ENTRY_PC` or `HALT_PC` is not a multiple of 4 (R221), else the launch state. DESIGN CHOICE: a
launch with `VLEN_BITS` = 0, of which the spec does not say what it does (D14 asks for a positive value), is accepted and has
empty vector registers; `Launch.wf` rules it out. Log 22. -/
def launch (l : Launch) : Host.Outcome State Fault Refusal :=
  if aligned l.entryPc && aligned l.haltPc then .next l.state else .refused .misalignedEntry

end Sys2Proof.Machine
end

