-- ==== Sys2Proof/Safety.lean ====
section
/-! DEFINITION. The terms in which claims are stated: what a run is, when it is safe and when it ends (60_exceptions.md R203,
70_reset_and_hazards.md R226), and what the instructions of one shape change and leave unchanged (their frame). -/

namespace Sys2Proof.Machine

open Sys2Proof

/-- `k` steps from `s` reach `t` without a fault or a refusal. -/
def Reaches (k : Nat) (s t : State) : Prop := Sys2Proof.core.run k s = .next t

/-- The run from `s` never stops with a fault or a refusal. -/
def SafeRun (s : State) : Prop := ∀ k, ∃ t, Reaches k s t

/-- The run from `s` ends: it reaches a final state (R226). -/
def Ends (s : State) : Prop := ∃ k t, Reaches k s t ∧ t.final = true

/-- A byte of the program text is unchanged, at every address. -/
def SameText (s t : State) : Prop := ∀ a : Nat, t.textByte a = s.textByte a

/-- The effect of a compare-and-jump with compare result `c` (40_compare_and_jump.md R101, R102): `P[d]` is `0xFF` or `0x00`,
taken or not; `pc` is the masked target when `c` has the sense `n`, else the next word; all else is unchanged. -/
def CompareJumpEffect (d : CjPred) (n : Sense) (c : Bool) (off : Int) (s t : State) : Prop :=
  t.readP d.reg = (if c = true then 0xFF#8 else 0x00#8) ∧
  t.pc = (if c = decide (n = Sense.plain) then s.pc + (BitVec.ofInt 32 off &&& 0xFFFFFFFC#32) else s.pc + 4#32) ∧
  (∀ q : PReg, q ≠ d.reg → t.readP q = s.readP q) ∧
  (∀ q : GReg, t.readR q = s.readR q) ∧ (∀ q : VReg, t.readV q = s.readV q) ∧
  t.ovf = s.ovf ∧ t.params = s.params ∧ SameText s t

/-- The effect of a jump on register whose condition is `c` (41_jump_on_register.md R140, R141): nothing but `pc` changes. -/
def JumpOnRegisterEffect (c : Bool) (off : Int) (s t : State) : Prop :=
  t.pc = (if c = true then s.pc + BitVec.ofInt 32 off else s.pc + 4#32) ∧
  (∀ q : GReg, t.readR q = s.readR q) ∧ (∀ q : PReg, t.readP q = s.readP q) ∧ (∀ q : VReg, t.readV q = s.readV q) ∧
  t.ovf = s.ovf ∧ t.params = s.params ∧ SameText s t

/-- The effect of an Add that writes `x` to `rd` and leaves OVF at `o` (43_alu32_add.md R194). -/
def AddEffect (rd : GReg) (x : Word) (o : Bool) (s t : State) : Prop :=
  t.readR rd = x ∧ t.ovf = o ∧ t.pc = s.pc + 4#32 ∧
  (∀ q : GReg, q ≠ rd → t.readR q = s.readR q) ∧ (∀ q : PReg, t.readP q = s.readP q) ∧
  (∀ q : VReg, t.readV q = s.readV q) ∧ t.params = s.params ∧ SameText s t

/-- What a `vasr` leaves unchanged and what else it does besides the elements of `Vd` (42_hvx_vasr_narrow.md R178): `pc` moves
to the next word; only `Vd` is written, and with `VLEN_BITS` bits. -/
def VasrFrame (vd : VReg) (s t : State) : Prop :=
  (t.readV vd).length = s.params.vlenWords ∧ t.pc = s.pc + 4#32 ∧
  (∀ q : VReg, q ≠ vd → t.readV q = s.readV q) ∧ (∀ q : GReg, t.readR q = s.readR q) ∧
  (∀ q : PReg, t.readP q = s.readP q) ∧ t.ovf = s.ovf ∧ t.params = s.params ∧ SameText s t

/-- The shifted value of an element `x` for a shift amount `n` (42_hvx_vasr_narrow.md R163): rounded down, or with `rnd` and
`n ≥ 1` after adding half of `2^n`. -/
def shiftedValue (rnd : Bool) (n : Nat) (x : Int) : Int :=
  if rnd = true ∧ 1 ≤ n then (x + 2 ^ (n - 1)) / 2 ^ n else x / 2 ^ n

/-- The result of a `vasr` with 16-bit source elements (R164), as a vector of bytes: the even bytes come from `Vv`, the odd ones
from `Vu`, each shifted by `Rt mod 8` and clamped to `lo..hi`. -/
def VasrHalfResult (val : Half → Int) (lo hi : Int) (rnd : Bool) (vd vu vv : VReg) (rt : GReg) (s t : State) : Prop :=
  VasrFrame vd s t ∧ ∀ k, k < 2 * s.params.vlenWords →
    elem8 (t.readV vd) (2 * k) =
      BitVec.ofInt 8 (max lo (min hi (shiftedValue rnd ((s.readR rt).toNat % 8) (val (elem16 (s.readV vv) k))))) ∧
    elem8 (t.readV vd) (2 * k + 1) =
      BitVec.ofInt 8 (max lo (min hi (shiftedValue rnd ((s.readR rt).toNat % 8) (val (elem16 (s.readV vu) k)))))

/-- The result of a saturating `vasr` with 32-bit source elements (R164), as a vector of halfwords: the even halfwords come
from `Vv`, the odd ones from `Vu`, each shifted by `Rt mod 16` and clamped to `lo..hi`. -/
def VasrWordResult (val : Word → Int) (lo hi : Int) (rnd : Bool) (vd vu vv : VReg) (rt : GReg) (s t : State) : Prop :=
  VasrFrame vd s t ∧ ∀ k, k < s.params.vlenWords →
    elem16 (t.readV vd) (2 * k) =
      BitVec.ofInt 16 (max lo (min hi (shiftedValue rnd ((s.readR rt).toNat % 16) (val (elem32 (s.readV vv) k))))) ∧
    elem16 (t.readV vd) (2 * k + 1) =
      BitVec.ofInt 16 (max lo (min hi (shiftedValue rnd ((s.readR rt).toNat % 16) (val (elem32 (s.readV vu) k)))))

/-- The bits of a word that a row of the format gives a value or a field; the others are printed `-` (30_encoding.md R74-R76,
R81-R83). -/
def definedBits : Format → Word
  | .cjN1 => 0xFFFFE3FE#32
  | .cjU5 | .cjRR | .jr => 0xFFFFFFFE#32
  | .addi | .hvxUnknown => 0xFFFFFFFF#32
  | .alu32Rrr => 0xFFFFDF1F#32

/-- The value a launch gives register `q`: that of its last entry for `q`, else 0 (log 1, log 22). -/
def launchedValue {n k : Nat} (l : List (Fin n × BitVec k)) (q : Fin n) : BitVec k :=
  match l.reverse.find? (fun c => c.1 = q) with
  | some c => c.2
  | none => 0#k

/-- The value a launch gives vector register `q`: that of its last entry for `q`, fitted to `n` words, else `n` zero words
(log 1, log 22). -/
def launchedVector (n : Nat) (l : List (VReg × VecVal)) (q : VReg) : VecVal :=
  match l.reverse.find? (fun c => c.1 = q) with
  | some c => fitVec n c.2
  | none => List.replicate n 0#32

/-- The 9 compare-and-jumps of one predicate, sense and hint, each with its compare result in the state `s`
(40_compare_and_jump.md R103 to R111). -/
def compareJumps (d : CjPred) (n : Sense) (h : Hint) (rs rt : GReg) (u : Nat) (off : Int) (s : State) : List (Instr × Bool) :=
  [(.cmpEqN1 d n h rs off, decide (s.readR rs = 0xFFFFFFFF#32)),
   (.cmpEqU5 d n h rs u off, decide ((s.readR rs).toNat = u)),
   (.cmpEqRR d n h rs rt off, decide (s.readR rs = s.readR rt)),
   (.cmpGtN1 d n h rs off, !(s.readR rs).getLsbD 31),
   (.cmpGtU5 d n h rs u off, decide ((u : Int) < (s.readR rs).toInt)),
   (.cmpGtRR d n h rs rt off, decide ((s.readR rt).toInt < (s.readR rs).toInt)),
   (.cmpGtuU5 d n h rs u off, decide (u < (s.readR rs).toNat)),
   (.cmpGtuRR d n h rs rt off, decide ((s.readR rt).toNat < (s.readR rs).toNat)),
   (.tstbit d n h rs off, decide ((s.readR rs).toNat % 2 = 1))]

/-- What 42_hvx_vasr_narrow.md R162 says of one `vasr` beside the value of the amount. `src` reads a source element, `lo` and
`hi` the results made of the elements of `Vv` and `Vu` with the same index, of which a word holds `perWord`, and `res n e` is
the result of an element `e` shifted by `n`. The amount is the bits of `Rt` that `mask` keeps, for every element of both sources;
values of `Rt` that agree in those bits give the same vector registers; and equal elements give equal results wherever they
stand. -/
def OneAmount {a b : Nat} (mask : Word) (src : VecVal → Nat → BitVec a) (lo hi : VecVal → Nat → BitVec b) (perWord : Nat)
    (res : Nat → BitVec a → BitVec b) (i : VReg → VReg → VReg → GReg → Instr) : Prop :=
  ∀ (vd vu vv : VReg) (rt : GReg) (s : State),
    (∀ x y : Word, x &&& mask = y &&& mask → ∃ t t', exec (i vd vu vv rt) (s.writeR rt x) = .next t ∧
      exec (i vd vu vv rt) (s.writeR rt y) = .next t' ∧ t.v = t'.v) ∧
    ∃ t, exec (i vd vu vv rt) s = .next t ∧
      (∀ k, k < perWord * s.params.vlenWords →
        lo (t.readV vd) k = res (s.readR rt &&& mask).toNat (src (s.readV vv) k) ∧
        hi (t.readV vd) k = res (s.readR rt &&& mask).toNat (src (s.readV vu) k)) ∧
      ∀ j k, j < perWord * s.params.vlenWords → k < perWord * s.params.vlenWords →
        (src (s.readV vv) j = src (s.readV vv) k → lo (t.readV vd) j = lo (t.readV vd) k) ∧
        (src (s.readV vu) j = src (s.readV vu) k → hi (t.readV vd) j = hi (t.readV vd) k) ∧
        (src (s.readV vu) j = src (s.readV vv) k → hi (t.readV vd) j = lo (t.readV vd) k)

/-- The 6 `vasr` with 16-bit source elements, each with the result of an element shifted by `n` (R165, R166, R170 to R173). -/
def vasrHalfSources : List ((VReg → VReg → VReg → GReg → Instr) × (Nat → Half → Byte)) :=
  [(.vasrBHSat, fun n e => sat8 (shr (valH e) n false)), (.vasrBHRndSat, fun n e => sat8 (shr (valH e) n true)),
   (.vasrUbHSat, fun n e => usat8 (shr (valH e) n false)), (.vasrUbHRndSat, fun n e => usat8 (shr (valH e) n true)),
   (.vasrUbUhSat, fun n e => usat8 (shr (valUh e) n false)), (.vasrUbUhRndSat, fun n e => usat8 (shr (valUh e) n true))]

/-- The 7 `vasr` with 32-bit source elements, each with the result of an element shifted by `n` (R167 to R169, R174 to
R177). -/
def vasrWordSources : List ((VReg → VReg → VReg → GReg → Instr) × (Nat → Word → Half)) :=
  [(.vasrHWRndSat, fun n e => sat16 (shr (valW e) n true)), (.vasrHW, fun n e => trunc16 (shr (valW e) n false)),
   (.vasrHWSat, fun n e => sat16 (shr (valW e) n false)), (.vasrUhUwSat, fun n e => usat16 (shr (valUw e) n false)),
   (.vasrUhUwRndSat, fun n e => usat16 (shr (valUw e) n true)), (.vasrUhWSat, fun n e => usat16 (shr (valW e) n false)),
   (.vasrUhWRndSat, fun n e => usat16 (shr (valW e) n true))]

end Sys2Proof.Machine
end

