-- ==== Sys2Proof/Certificates/Slice0/Obligations.lean ====
section
/-! DEFINITION. The statements for the provers. Each docstring says what is stated and which rules of spec/ it rests on. -/

open Sys2Proof Sys2Proof.Machine

/-- Eight words, at least one of each encoded family, taken from 95_test_vectors.md (V-E1, V-E2, V-E3, V-C10, V-C24, V-E5,
V-E7, V-A11), decode to the instruction the spec names beside them. (basis: derived; 95_test_vectors.md section 2.1,
R77, R81, R82, R83) -/
def Obligations.SpecWordsDecode : Prop :=
  decode 0x1182C004#32 = .ok (.p0CmpEqN1NewNt 2 8) ∧
  decode 0x10E9FF00#32 = .ok (.p0CmpGtU5NotNewT 17 31 (-1024)) ∧
  decode 0x119FE3FE#32 = .ok (.p0TstbitNewT 23 1020) ∧
  decode 0x1401D906#32 = .ok (.p1CmpEqRRNewNt 1 17 12) ∧
  decode 0x1104DF0A#32 = .ok (.p0CmpGtuU5NewNt 4 31 20) ∧
  decode 0x615FEFFE#32 = .ok (.jumpGeNt 31 16380) ∧
  decode 0xB804C003#32 = .ok (.addImm 3 4 (-32768)) ∧
  decode 0xF642C301#32 = .ok (.addRegSat 1 2 3)

/-- When pc is not HALT_PC, the text holds a word at pc, that word decodes to i, and its row is admitted (its bits are
from the source or ADMIT_UNSOURCED_ENCODINGS is on), step at s is exec of i at s; exec itself sets the next pc.
(basis: derived; R86, R202) -/
def Obligations.StepRunsTheDecodedInstruction : Prop :=
  ∀ (s : State) (w : Word) (i : Instr), s.pc ≠ s.params.haltPc → s.params.text.fetch s.pc = some w → decode w = .ok i →
    (s.params.admitUnsourced = true ∨ isUnsourced w = false) → step s = exec i s

/-- For every well-formed instruction i of all 83 encoded rows, with every operand at every value its encoding admits: if
encode i is the word w then decode w is i. (basis: derived; R75, R76, R79, R80, R81, R82, R83, R86) -/
def Obligations.DecodeInvertsEncode : Prop :=
  ∀ i : Instr, i.wf = true → ∀ w : Word, encode i = some w → decode w = .ok i

/-- encode i is none exactly for the 13 instructions of format HVX-unknown; and no word decodes to one of them. That a
term whose operands the fields cannot express has a word too is the model's choice (log 24). (basis: derived; R85) -/
def Obligations.OnlyVasrHasNoEncoding : Prop :=
  (∀ i : Instr, encode i = none ↔ i.format = .hvxUnknown) ∧
    ∀ (w : Word) (i : Instr), decode w = .ok i → i.format ≠ .hvxUnknown

/-- For every word w: (1) Parse other than 11 is refused as ParseNotSingle; (3) with Parse 11 and no matching row it is
refused as NoSuchEncoding; (2, 5) with Parse 11 and a matching row of the table, no other row matches and w decodes to
that row's instruction; and a step at a state whose text holds w at pc refuses in the first two cases, (4) refuses as
UnsourcedEncoding when the row is general_knowledge and the switch is off, and otherwise executes the row's instruction.
That Parse other than 11, a word of no row and an unsourced row are refused are the spec's decisions D1, D2, D22 and D32
(logs 11, 18, 5). (basis: derived; R86, R72, R77, R81, R82, R83, R84) -/
def Obligations.DecodeProcedureSelectsTheUniqueRow : Prop :=
  ∀ w : Word,
    (fieldParse w ≠ 3#2 → decodeRow w = .error (.parseNotSingle w)) ∧
    (fieldParse w = 3#2 → (∀ r ∈ rows, w &&& r.mask ≠ r.matchBits) → decodeRow w = .error (.noSuchEncoding w)) ∧
    (fieldParse w = 3#2 → ∀ r ∈ rows, w &&& r.mask = r.matchBits →
      (∀ q ∈ rows, w &&& q.mask = q.matchBits → q = r) ∧ decodeRow w = .ok r ∧ decode w = .ok (r.build w)) ∧
    ∀ s : State, s.final = false → s.params.text.fetch s.pc = some w →
      (fieldParse w ≠ 3#2 → step s = .refused (.parseNotSingle w)) ∧
      (fieldParse w = 3#2 → (∀ r ∈ rows, w &&& r.mask ≠ r.matchBits) → step s = .refused (.noSuchEncoding w)) ∧
      (fieldParse w = 3#2 → ∀ r ∈ rows, w &&& r.mask = r.matchBits →
        (r.provenance = .generalKnowledge → s.params.admitUnsourced = false →
          step s = .refused (.unsourcedEncoding w)) ∧
        (r.provenance = .source ∨ s.params.admitUnsourced = true → step s = exec (r.build w) s))

/-- If a word of Parse 11 selects a row, any word that agrees with it on the bits the row's format defines decodes to
the same instruction; and a word the encoder writes is 0 outside the bits its format defines. This is the spec's own
decision D21 (log 18). That a term whose operands the fields cannot express has a word too is the model's choice (log
24). (basis: derived; R74, R75, R76, R81, R82, R83) -/
def Obligations.DashBitsAreIgnoredAndWrittenZero : Prop :=
  (∀ r ∈ rows, ∀ w w' : Word, fieldParse w = 3#2 → r.selects w = true →
      w' &&& definedBits r.format = w &&& definedBits r.format → decode w' = decode w) ∧
    ∀ (i : Instr) (w : Word), encode i = some w → w &&& ~~~(definedBits i.format) = 0#32

/-- Whatever word decodes to i, i is well formed: compare-and-jump registers are R0-R7 or R16-R23, offsets are multiples
of 4 in their range, #U5 and #s16 are in range. (basis: derived; R100, R223, R79, R80, R82, R83) -/
def Obligations.DecodedInstructionsAreWellFormed : Prop :=
  ∀ (w : Word) (i : Instr), decode w = .ok i → i.wf = true

/-- For every word w: the #r9:2 offset is 4 times the two's-complement value of bits 21:20, 7:1; the #r13:2 offset is 4
times that of bits 21, 13, 11:1; #s16 is that of bits 27:21, 13:5; each lies in its range. The bit order is the spec's
decision D31 (log 13). (basis: derived; R79, R82, R83) -/
def Obligations.ImmediateFieldsHaveTheirSignedValue : Prop :=
  ∀ w : Word,
    fieldR9 w = 4 * (128 * (w.toNat / 2 ^ 20 % 4) + w.toNat / 2 % 128 : Nat) -
      (if w.toNat / 2 ^ 21 % 2 = 1 then 2048 else 0) ∧
    fieldR13 w = 4 * (4096 * (w.toNat / 2 ^ 21 % 2) + 2048 * (w.toNat / 2 ^ 13 % 2) + w.toNat / 2 % 2048 : Nat) -
      (if w.toNat / 2 ^ 21 % 2 = 1 then 32768 else 0) ∧
    fieldS16 w = (512 * (w.toNat / 2 ^ 21 % 128) + w.toNat / 2 ^ 5 % 512 : Nat) -
      (if w.toNat / 2 ^ 27 % 2 = 1 then 65536 else 0) ∧
    r9Ok (fieldR9 w) = true ∧ r13Ok (fieldR13 w) = true ∧ s16Ok (fieldS16 w) = true

/-- A field value below 8 names the register of that number, a value from 8 on the register 8 higher; the registers so
named are exactly R0-R7 and R16-R23. The order is the spec's decision D7 (log 13). (basis: derived; R80, R100) -/
def Obligations.CompareRegisterFieldNamesR0ToR7AndR16ToR23 : Prop :=
  (∀ b : BitVec 4, (cjReg b).val = if b.toNat < 8 then b.toNat else b.toNat + 8) ∧
    ∀ r : GReg, (∃ b : BitVec 4, cjReg b = r) ↔ (r.val < 8 ∨ (16 ≤ r.val ∧ r.val ≤ 23))

/-- With Parse 11: every word with bits 31:28 = 0001, 27:26 = 00, 24:23 = 11 and 9:8 = 10, and every word with bits 31:28
= 0000 (a constant extender), is NoSuchEncoding, whatever its other bits; so a step at such a word refuses whatever
the switch. (basis: derived; R84, R78) -/
def Obligations.UnassignedWordsAreNoEncoding : Prop :=
  ∀ w : Word, fieldParse w = 3#2 →
    (w &&& 0xFD800300#32 = 0x11800200#32 ∨ w &&& 0xF0000000#32 = 0x00000000#32) →
    decode w = .error (.noSuchEncoding w) ∧
    ∀ s : State, s.final = false → s.params.text.fetch s.pc = some w → step s = .refused (.noSuchEncoding w)

/-- The 8 instructions p0CmpEqN1NewNt, p0CmpEqN1NewT, p0CmpEqN1NotNewNt, p0CmpEqN1NotNewT, p1CmpEqN1NewNt, p1CmpEqN1NewT,
p1CmpEqN1NotNewNt, p1CmpEqN1NotNewT answer a next state for every state and operands: P[d] becomes 0xFF when Rs equals
-1 (all 32 bits set), else 0x00, taken or not; pc becomes pc plus the offset with its two low bits cleared when the
result has the sense of the jump, else pc + 4 (the fall-through and wrap are decision D4, log 19); every other
register, OVF, the parameters and every byte of the text are unchanged. (basis: derived; R103, R101, R102) -/
def Obligations.CompareEqualMinusOneThenJump : Prop :=
  ∀ (d : CjPred) (n : Sense) (h : Hint) (rs : GReg) (off : Int) (s : State),
    ∃ t, exec (Instr.cmpEqN1 d n h rs off) s = .next t ∧ CompareJumpEffect d n (decide (s.readR rs = 0xFFFFFFFF#32)) off s t

/-- The 8 instructions p0CmpEqU5NewNt, p0CmpEqU5NewT, p0CmpEqU5NotNewNt, p0CmpEqU5NotNewT, p1CmpEqU5NewNt, p1CmpEqU5NewT,
p1CmpEqU5NotNewNt, p1CmpEqU5NotNewT answer a next state for every state and operands with U < 32 (every value #U5
has): P[d] becomes 0xFF when Rs, as an unsigned number, equals U (#U5 is zero-extended), else 0x00, taken or not; pc
becomes pc plus the offset with its two low bits cleared when the result has the sense of the jump, else pc + 4 (the
fall-through and wrap are decision D4, log 19); every other register, OVF, the parameters and every byte of the text
are unchanged. (basis: derived; R104, R101, R102) -/
def Obligations.CompareEqualU5ThenJump : Prop :=
  ∀ (d : CjPred) (n : Sense) (h : Hint) (rs : GReg) (u : Nat) (off : Int) (s : State), u < 32 →
    ∃ t, exec (Instr.cmpEqU5 d n h rs u off) s = .next t ∧ CompareJumpEffect d n (decide ((s.readR rs).toNat = u)) off s t

/-- The 8 instructions p0CmpEqRRNewNt, p0CmpEqRRNewT, p0CmpEqRRNotNewNt, p0CmpEqRRNotNewT, p1CmpEqRRNewNt, p1CmpEqRRNewT,
p1CmpEqRRNotNewNt, p1CmpEqRRNotNewT answer a next state for every state and operands: P[d] becomes 0xFF when Rs equals
Rt, else 0x00, taken or not; pc becomes pc plus the offset with its two low bits cleared when the result has the sense
of the jump, else pc + 4 (the fall-through and wrap are decision D4, log 19); every other register, OVF, the
parameters and every byte of the text are unchanged. (basis: derived; R105, R101, R102) -/
def Obligations.CompareEqualRegistersThenJump : Prop :=
  ∀ (d : CjPred) (n : Sense) (h : Hint) (rs : GReg) (rt : GReg) (off : Int) (s : State),
    ∃ t, exec (Instr.cmpEqRR d n h rs rt off) s = .next t ∧ CompareJumpEffect d n (decide (s.readR rs = s.readR rt)) off s t

/-- The 8 instructions p0CmpGtN1NewNt, p0CmpGtN1NewT, p0CmpGtN1NotNewNt, p0CmpGtN1NotNewT, p1CmpGtN1NewNt, p1CmpGtN1NewT,
p1CmpGtN1NotNewNt, p1CmpGtN1NotNewT answer a next state for every state and operands: P[d] becomes 0xFF when bit 31 of
Rs is 0 (Rs is signed greater than -1), else 0x00, taken or not; pc becomes pc plus the offset with its two low bits
cleared when the result has the sense of the jump, else pc + 4 (the fall-through and wrap are decision D4, log 19);
every other register, OVF, the parameters and every byte of the text are unchanged. (basis: derived; R106, R101, R102) -/
def Obligations.CompareGreaterMinusOneThenJump : Prop :=
  ∀ (d : CjPred) (n : Sense) (h : Hint) (rs : GReg) (off : Int) (s : State),
    ∃ t, exec (Instr.cmpGtN1 d n h rs off) s = .next t ∧ CompareJumpEffect d n ((!(s.readR rs).getLsbD 31)) off s t

/-- The 8 instructions p0CmpGtU5NewNt, p0CmpGtU5NewT, p0CmpGtU5NotNewNt, p0CmpGtU5NotNewT, p1CmpGtU5NewNt, p1CmpGtU5NewT,
p1CmpGtU5NotNewNt, p1CmpGtU5NotNewT answer a next state for every state and operands with U < 32 (every value #U5
has): P[d] becomes 0xFF when Rs, as a signed number, is greater than U, else 0x00, taken or not; pc becomes pc plus
the offset with its two low bits cleared when the result has the sense of the jump, else pc + 4 (the fall-through and
wrap are decision D4, log 19); every other register, OVF, the parameters and every byte of the text are unchanged.
(basis: derived; R107, R101, R102) -/
def Obligations.CompareGreaterU5ThenJump : Prop :=
  ∀ (d : CjPred) (n : Sense) (h : Hint) (rs : GReg) (u : Nat) (off : Int) (s : State), u < 32 →
    ∃ t, exec (Instr.cmpGtU5 d n h rs u off) s = .next t ∧ CompareJumpEffect d n (decide ((u : Int) < (s.readR rs).toInt)) off s t

/-- The 8 instructions p0CmpGtRRNewNt, p0CmpGtRRNewT, p0CmpGtRRNotNewNt, p0CmpGtRRNotNewT, p1CmpGtRRNewNt, p1CmpGtRRNewT,
p1CmpGtRRNotNewNt, p1CmpGtRRNotNewT answer a next state for every state and operands: P[d] becomes 0xFF when Rs is
greater than Rt, both signed, else 0x00, taken or not; pc becomes pc plus the offset with its two low bits cleared
when the result has the sense of the jump, else pc + 4 (the fall-through and wrap are decision D4, log 19); every
other register, OVF, the parameters and every byte of the text are unchanged. (basis: derived; R108, R101, R102) -/
def Obligations.CompareGreaterRegistersThenJump : Prop :=
  ∀ (d : CjPred) (n : Sense) (h : Hint) (rs : GReg) (rt : GReg) (off : Int) (s : State),
    ∃ t, exec (Instr.cmpGtRR d n h rs rt off) s = .next t ∧ CompareJumpEffect d n (decide ((s.readR rt).toInt < (s.readR rs).toInt)) off s t

/-- The 8 instructions p0CmpGtuU5NewNt, p0CmpGtuU5NewT, p0CmpGtuU5NotNewNt, p0CmpGtuU5NotNewT, p1CmpGtuU5NewNt,
p1CmpGtuU5NewT, p1CmpGtuU5NotNewNt, p1CmpGtuU5NotNewT answer a next state for every state and operands with U < 32
(every value #U5 has): P[d] becomes 0xFF when Rs, as an unsigned number, is greater than U, else 0x00, taken or not;
pc becomes pc plus the offset with its two low bits cleared when the result has the sense of the jump, else pc + 4
(the fall-through and wrap are decision D4, log 19); every other register, OVF, the parameters and every byte of the
text are unchanged. (basis: derived; R109, R101, R102) -/
def Obligations.CompareGreaterUnsignedU5ThenJump : Prop :=
  ∀ (d : CjPred) (n : Sense) (h : Hint) (rs : GReg) (u : Nat) (off : Int) (s : State), u < 32 →
    ∃ t, exec (Instr.cmpGtuU5 d n h rs u off) s = .next t ∧ CompareJumpEffect d n (decide (u < (s.readR rs).toNat)) off s t

/-- The 8 instructions p0CmpGtuRRNewNt, p0CmpGtuRRNewT, p0CmpGtuRRNotNewNt, p0CmpGtuRRNotNewT, p1CmpGtuRRNewNt,
p1CmpGtuRRNewT, p1CmpGtuRRNotNewNt, p1CmpGtuRRNotNewT answer a next state for every state and operands: P[d] becomes
0xFF when Rs is greater than Rt, both unsigned (conflict C4), else 0x00, taken or not; pc becomes pc plus the offset
with its two low bits cleared when the result has the sense of the jump, else pc + 4 (the fall-through and wrap are
decision D4, log 19); every other register, OVF, the parameters and every byte of the text are unchanged. (basis:
derived; R110, R101, R102) -/
def Obligations.CompareGreaterUnsignedRegistersThenJump : Prop :=
  ∀ (d : CjPred) (n : Sense) (h : Hint) (rs : GReg) (rt : GReg) (off : Int) (s : State),
    ∃ t, exec (Instr.cmpGtuRR d n h rs rt off) s = .next t ∧ CompareJumpEffect d n (decide ((s.readR rt).toNat < (s.readR rs).toNat)) off s t

/-- The 8 instructions p0TstbitNewNt, p0TstbitNewT, p0TstbitNotNewNt, p0TstbitNotNewT, p1TstbitNewNt, p1TstbitNewT,
p1TstbitNotNewNt, p1TstbitNotNewT answer a next state for every state and operands: P[d] becomes 0xFF when Rs is odd
(bit 0 is 1), else 0x00, taken or not; pc becomes pc plus the offset with its two low bits cleared when the result has
the sense of the jump, else pc + 4 (the fall-through and wrap are decision D4, log 19); every other register, OVF, the
parameters and every byte of the text are unchanged. (basis: derived; R111, R101, R102) -/
def Obligations.TestBitZeroThenJump : Prop :=
  ∀ (d : CjPred) (n : Sense) (h : Hint) (rs : GReg) (off : Int) (s : State),
    ∃ t, exec (Instr.tstbit d n h rs off) s = .next t ∧ CompareJumpEffect d n (decide ((s.readR rs).toNat % 2 = 1)) off s t

/-- For each of the 9 compare-and-jump operations with each predicate, sense and hint, every operand and every state
(every U that #U5 has), with c the operation's compare result: the next state has P[d] = 0xFF or 0x00 as c says, whether
or not the jump is taken; bit 0 of that new value is c; pc becomes pc plus the masked offset when that bit has the sense
of the jump, else pc + 4; with any other predicates before the instruction, pc and P[d] after it are the same; pc stays
a multiple of 4; every other register, OVF, the parameters and the text are unchanged. The 9 families hold every
compare-and-jump. The fall-through, the base and the mask are decisions D4 and D5 (log 19), the unsigned Rt decision
D20. (basis: derived; R101, R102, R103, R104, R105, R106, R107, R108, R109, R110, R111) -/
def Obligations.EveryCompareJumpWritesItsPredicateThenJumps : Prop :=
  (∀ (d : CjPred) (n : Sense) (h : Hint) (rs rt : GReg) (u : Nat) (off : Int) (s : State), u < 32 →
    ∀ ic ∈ compareJumps d n h rs rt u off s, ∃ t, exec ic.1 s = .next t ∧
      t.readP d.reg = (if ic.2 = true then 0xFF#8 else 0x00#8) ∧ (t.readP d.reg).getLsbD 0 = ic.2 ∧
      t.pc = (if (t.readP d.reg).getLsbD 0 = decide (n = Sense.plain)
        then s.pc + (BitVec.ofInt 32 off &&& 0xFFFFFFFC#32) else s.pc + 4#32) ∧
      (∀ p : Vector Byte 4, ∃ t', exec ic.1 { s with p := p } = .next t' ∧ t'.pc = t.pc ∧
        t'.readP d.reg = t.readP d.reg) ∧
      (aligned s.pc = true → aligned t.pc = true) ∧ (∀ q : PReg, q ≠ d.reg → t.readP q = s.readP q) ∧
      (∀ q : GReg, t.readR q = s.readR q) ∧ (∀ q : VReg, t.readV q = s.readV q) ∧
      t.ovf = s.ovf ∧ t.params = s.params ∧ SameText s t) ∧
    ∀ (i : Instr) (s : State), i.isCompareJump = true →
      ∃ d n h rs rt u off, i ∈ (compareJumps d n h rs rt u off s).map Prod.fst

/-- For an offset that is a multiple of 4 the compare-and-jump target is pc plus the offset modulo 2^32; for any offset,
the target is a multiple of 4 when pc is. (basis: derived; R27, R29, R54, R102) -/
def Obligations.CompareJumpMaskIsIdentityOnOffsets : Prop :=
  (∀ (pc : Word) (off : Int), off % 4 = 0 → cjTarget pc off = BitVec.ofInt 32 ((pc.toNat : Int) + off)) ∧
    ∀ (pc : Word) (off : Int), pc.toNat % 4 = 0 → (cjTarget pc off).toNat % 4 = 0

/-- For each of the 9 compare-and-jump operations and the 4 register conditions, with every predicate, sense, operands and
state, the :t and the :nt variant give the same outcome. (basis: derived; R113, R150) -/
def Obligations.HintsChangeNothing : Prop :=
  ∀ (d : CjPred) (n : Sense) (rs rt : GReg) (u : Nat) (off : Int) (s : State),
    exec (Instr.cmpEqN1 d n .t rs off) s = exec (Instr.cmpEqN1 d n .nt rs off) s ∧
    exec (Instr.cmpEqU5 d n .t rs u off) s = exec (Instr.cmpEqU5 d n .nt rs u off) s ∧
    exec (Instr.cmpEqRR d n .t rs rt off) s = exec (Instr.cmpEqRR d n .nt rs rt off) s ∧
    exec (Instr.cmpGtN1 d n .t rs off) s = exec (Instr.cmpGtN1 d n .nt rs off) s ∧
    exec (Instr.cmpGtU5 d n .t rs u off) s = exec (Instr.cmpGtU5 d n .nt rs u off) s ∧
    exec (Instr.cmpGtRR d n .t rs rt off) s = exec (Instr.cmpGtRR d n .nt rs rt off) s ∧
    exec (Instr.cmpGtuU5 d n .t rs u off) s = exec (Instr.cmpGtuU5 d n .nt rs u off) s ∧
    exec (Instr.cmpGtuRR d n .t rs rt off) s = exec (Instr.cmpGtuRR d n .nt rs rt off) s ∧
    exec (Instr.tstbit d n .t rs off) s = exec (Instr.tstbit d n .nt rs off) s ∧
    exec (Instr.jumpNe .t rs off) s = exec (Instr.jumpNe .nt rs off) s ∧
    exec (Instr.jumpLe .t rs off) s = exec (Instr.jumpLe .nt rs off) s ∧
    exec (Instr.jumpEq .t rs off) s = exec (Instr.jumpEq .nt rs off) s ∧
    exec (Instr.jumpGe .t rs off) s = exec (Instr.jumpGe .nt rs off) s

/-- jumpNeNt and jumpNeT answer a next state for every state and operands: pc becomes pc plus the offset modulo 2^32 when
Rs is not zero, else pc + 4 (decision D4, log 19); no register, predicate or flag, no parameter and no byte of the
text changes. (basis: derived; R142, R143, R140, R141) -/
def Obligations.JumpIfNotZero : Prop :=
  ∀ (h : Hint) (rs : GReg) (off : Int) (s : State),
    ∃ t, exec (Instr.jumpNe h rs off) s = .next t ∧ JumpOnRegisterEffect (decide (s.readR rs ≠ 0#32)) off s t

/-- jumpLeNt and jumpLeT answer a next state for every state and operands: pc becomes pc plus the offset modulo 2^32 when
Rs is zero or has bit 31 set, else pc + 4 (decision D4, log 19); no register, predicate or flag, no parameter and no
byte of the text changes. (basis: derived; R144, R145, R140, R141) -/
def Obligations.JumpIfNotPositive : Prop :=
  ∀ (h : Hint) (rs : GReg) (off : Int) (s : State),
    ∃ t, exec (Instr.jumpLe h rs off) s = .next t ∧ JumpOnRegisterEffect ((decide (s.readR rs = 0#32) || (s.readR rs).getLsbD 31)) off s t

/-- jumpEqNt and jumpEqT answer a next state for every state and operands: pc becomes pc plus the offset modulo 2^32 when
Rs is zero, else pc + 4 (decision D4, log 19); no register, predicate or flag, no parameter and no byte of the text
changes. (basis: derived; R146, R147, R140, R141) -/
def Obligations.JumpIfZero : Prop :=
  ∀ (h : Hint) (rs : GReg) (off : Int) (s : State),
    ∃ t, exec (Instr.jumpEq h rs off) s = .next t ∧ JumpOnRegisterEffect (decide (s.readR rs = 0#32)) off s t

/-- jumpGeNt and jumpGeT answer a next state for every state and operands: pc becomes pc plus the offset modulo 2^32 when
bit 31 of Rs is 0, else pc + 4 (decision D4, log 19); no register, predicate or flag, no parameter and no byte of the
text changes. (basis: derived; R148, R149, R140, R141) -/
def Obligations.JumpIfNotNegative : Prop :=
  ∀ (h : Hint) (rs : GReg) (off : Int) (s : State),
    ∃ t, exec (Instr.jumpGe h rs off) s = .next t ∧ JumpOnRegisterEffect ((!(s.readR rs).getLsbD 31)) off s t

/-- addImm answers a next state for every state and operands: Rd is Rs plus the immediate as a 32-bit two's-complement
number, modulo 2^32; OVF, every other register, the predicates, the vectors, the parameters and the text are
unchanged; pc is pc + 4. (basis: derived; R191, R194) -/
def Obligations.AddImmediateWraps : Prop :=
  ∀ (rd rs : GReg) (s16 : Int) (s : State),
    ∃ t, exec (.addImm rd rs s16) s = .next t ∧ AddEffect rd (s.readR rs + BitVec.ofInt 32 s16) s.ovf s t

/-- addReg answers a next state for every state and operands: Rd is the sum modulo 2^32, which is the same of the signed
and of the unsigned values of Rs and Rt; OVF and all else are unchanged; pc is pc + 4. (basis: derived; R192, R194) -/
def Obligations.AddRegistersWraps : Prop :=
  ∀ (rd rs rt : GReg) (s : State),
    ∃ t, exec (.addReg rd rs rt) s = .next t ∧
      AddEffect rd (BitVec.ofNat 32 ((s.readR rs).toNat + (s.readR rt).toNat)) s.ovf s t ∧
      t.readR rd = BitVec.ofInt 32 ((s.readR rs).toInt + (s.readR rt).toInt)

/-- addRegSat answers a next state for every state and operands. With x the exact sum of the signed Rs and Rt: Rd is
0x80000000 when x < -2^31, 0x7FFFFFFF when x > 2^31-1, else the wrapping sum; OVF becomes 1 in the first two cases and
is unchanged in the third; all else is unchanged; pc is pc + 4. (basis: derived; R193, R190, R194) -/
def Obligations.AddSaturatingClampsAndSetsOverflow : Prop :=
  ∀ (rd rs rt : GReg) (s : State),
    let x : Int := (s.readR rs).toInt + (s.readR rt).toInt
    ∃ t, exec (.addRegSat rd rs rt) s = .next t ∧
      AddEffect rd
        (if x < -2147483648 then 0x80000000#32 else if 2147483647 < x then 0x7FFFFFFF#32 else s.readR rs + s.readR rt)
        (if x < -2147483648 ∨ 2147483647 < x then true else s.ovf) s t

/-- For every integer x the signed value of sat_32(x) is -2^31 if x < -2^31, 2^31-1 if x > 2^31-1, else x; saturation
occurs exactly when that differs from x, which is exactly when x lies outside -2^31..2^31-1. (basis: stated; R190) -/
def Obligations.Saturation32ClampsExactlyOutsideTheRange : Prop :=
  ∀ x : Int,
    (sat32 x).toInt = (if x < -2147483648 then -2147483648 else if 2147483647 < x then 2147483647 else x) ∧
    (saturates32 x = true ↔ (sat32 x).toInt ≠ x) ∧
    (saturates32 x = true ↔ x < -2147483648 ∨ 2147483647 < x)

/-- For every instruction i and state s whose meaning gives t: OVF set in s is set in t; if OVF changed, i is add:sat
and its exact sum saturates; add:sat with a saturating sum sets it and with any other sum leaves it; and started from s
with any OVF b instead, i reaches the state whose registers, predicates, vectors, pc and parameters are those of t: no
instruction reads OVF, and the vasr group leaves it alone. That only add:sat changes OVF and the vasr group leaves it
alone rests on decision D18 (log 15). (basis: derived; R31, R178, R193) -/
def Obligations.OverflowFlagIsStickyAndNeverRead : Prop :=
  ∀ (i : Instr) (s t : State), exec i s = .next t →
    (s.ovf = true → t.ovf = true) ∧
    (t.ovf ≠ s.ovf → ∃ rd rs rt, i = .addRegSat rd rs rt ∧
      saturates32 ((s.readR rs).toInt + (s.readR rt).toInt) = true) ∧
    (∀ rd rs rt, i = .addRegSat rd rs rt →
      t.ovf = if saturates32 ((s.readR rs).toInt + (s.readR rt).toInt) = true then true else s.ovf) ∧
    (i.format = .hvxUnknown → t.ovf = s.ovf) ∧
    ∀ b : Bool, ∃ t', exec i { s with ovf := b } = .next t' ∧ { t' with ovf := t.ovf } = t

/-- Q6_R_add_RI, Q6_R_add_RR and Q6_R_add_RR_sat of the source registers' values are the Rd that addImm, addReg and
addRegSat leave. (basis: stated; R196) -/
def Obligations.IntrinsicsReturnTheDestinationRegister : Prop :=
  ∀ (rd rs rt : GReg) (s16 : Int) (s : State),
    (∃ t, exec (.addImm rd rs s16) s = .next t ∧ t.readR rd = q6RAddRI (s.readR rs) s16) ∧
    (∃ t, exec (.addReg rd rs rt) s = .next t ∧ t.readR rd = q6RAddRR (s.readR rs) (s.readR rt)) ∧
    (∃ t, exec (.addRegSat rd rs rt) s = .next t ∧ t.readR rd = q6RAddRRSat (s.readR rs) (s.readR rt))

/-- vasrBHSat and vasrBHRndSat answer a next state for every state and operands and every vector length: element 2k of Vd
comes from element k of Vv and element 2k+1 from element k of Vu (signed halfwords to signed bytes, clamped to
-128..127), each shifted right by Rt mod 8, rounding down without :rnd and after adding half with :rnd when the shift
is not 0 (decisions D15, D16, D17, D28, D30; log 14); no other register, flag, parameter or byte of the text changes;
pc is pc + 4. (basis: derived; R165, R166, R160, R161, R162, R163, R164, R178) -/
def Obligations.VasrHalfToSignedByte : Prop :=
  ∀ (vd vu vv : VReg) (rt : GReg) (s : State),
    (∃ t, exec (.vasrBHSat vd vu vv rt) s = .next t ∧ VasrHalfResult valH (-128) 127 false vd vu vv rt s t) ∧
    (∃ t, exec (.vasrBHRndSat vd vu vv rt) s = .next t ∧ VasrHalfResult valH (-128) 127 true vd vu vv rt s t)

/-- vasrHWSat and vasrHWRndSat answer a next state for every state and operands and every vector length: element 2k of Vd
comes from element k of Vv and element 2k+1 from element k of Vu (signed words to signed halfwords, clamped to
-32768..32767), each shifted right by Rt mod 16, rounding down without :rnd and after adding half with :rnd when the
shift is not 0 (decisions D15, D16, D17, D28, D30; log 14); no other register, flag, parameter or byte of the text
changes; pc is pc + 4. (basis: derived; R169, R167, R160, R161, R162, R163, R164, R178) -/
def Obligations.VasrWordToSignedHalf : Prop :=
  ∀ (vd vu vv : VReg) (rt : GReg) (s : State),
    (∃ t, exec (.vasrHWSat vd vu vv rt) s = .next t ∧ VasrWordResult valW (-32768) 32767 false vd vu vv rt s t) ∧
    (∃ t, exec (.vasrHWRndSat vd vu vv rt) s = .next t ∧ VasrWordResult valW (-32768) 32767 true vd vu vv rt s t)

/-- vasrHW answers a next state for every state and operands and every vector length: halfword 2k of Vd is bits n+15..n of
word k of Vv sign-extended, halfword 2k+1 those of word k of Vu, with n = Rt mod 16 (decisions D29, D30; log 14); the
frame is that of the group. (basis: derived; R168, R162, R164, R178) -/
def Obligations.VasrTruncatingKeepsBitsAboveTheShift : Prop :=
  ∀ (vd vu vv : VReg) (rt : GReg) (s : State),
    ∃ t, exec (.vasrHW vd vu vv rt) s = .next t ∧ VasrFrame vd s t ∧ ∀ k, k < s.params.vlenWords →
      elem16 (t.readV vd) (2 * k) =
        ((elem32 (s.readV vv) k).signExtend 64).extractLsb' ((s.readR rt).toNat % 16) 16 ∧
      elem16 (t.readV vd) (2 * k + 1) =
        ((elem32 (s.readV vu) k).signExtend 64).extractLsb' ((s.readR rt).toNat % 16) 16

/-- vasrUbHSat and vasrUbHRndSat answer a next state for every state and operands and every vector length: element 2k of
Vd comes from element k of Vv and element 2k+1 from element k of Vu (signed halfwords to unsigned bytes, clamped to
0..255), each shifted right by Rt mod 8, rounding down without :rnd and after adding half with :rnd when the shift is
not 0 (decisions D15, D16, D17, D28, D30; log 14); no other register, flag, parameter or byte of the text changes; pc
is pc + 4. (basis: derived; R170, R171, R160, R161, R162, R163, R164, R178) -/
def Obligations.VasrHalfToUnsignedByte : Prop :=
  ∀ (vd vu vv : VReg) (rt : GReg) (s : State),
    (∃ t, exec (.vasrUbHSat vd vu vv rt) s = .next t ∧ VasrHalfResult valH 0 255 false vd vu vv rt s t) ∧
    (∃ t, exec (.vasrUbHRndSat vd vu vv rt) s = .next t ∧ VasrHalfResult valH 0 255 true vd vu vv rt s t)

/-- vasrUbUhSat and vasrUbUhRndSat answer a next state for every state and operands and every vector length: element 2k of
Vd comes from element k of Vv and element 2k+1 from element k of Vu (unsigned halfwords to unsigned bytes, clamped to
0..255), each shifted right by Rt mod 8, rounding down without :rnd and after adding half with :rnd when the shift is
not 0 (decisions D15, D16, D17, D28, D30; log 14); no other register, flag, parameter or byte of the text changes; pc
is pc + 4. (basis: derived; R172, R173, R160, R161, R162, R163, R164, R178) -/
def Obligations.VasrUnsignedHalfToUnsignedByte : Prop :=
  ∀ (vd vu vv : VReg) (rt : GReg) (s : State),
    (∃ t, exec (.vasrUbUhSat vd vu vv rt) s = .next t ∧ VasrHalfResult valUh 0 255 false vd vu vv rt s t) ∧
    (∃ t, exec (.vasrUbUhRndSat vd vu vv rt) s = .next t ∧ VasrHalfResult valUh 0 255 true vd vu vv rt s t)

/-- vasrUhUwSat and vasrUhUwRndSat answer a next state for every state and operands and every vector length: element 2k of
Vd comes from element k of Vv and element 2k+1 from element k of Vu (unsigned words to unsigned halfwords, clamped to
0..65535), each shifted right by Rt mod 16, rounding down without :rnd and after adding half with :rnd when the shift
is not 0 (decisions D15, D16, D17, D28, D30; log 14); no other register, flag, parameter or byte of the text changes;
pc is pc + 4. (basis: derived; R174, R175, R160, R161, R162, R163, R164, R178) -/
def Obligations.VasrUnsignedWordToUnsignedHalf : Prop :=
  ∀ (vd vu vv : VReg) (rt : GReg) (s : State),
    (∃ t, exec (.vasrUhUwSat vd vu vv rt) s = .next t ∧ VasrWordResult valUw 0 65535 false vd vu vv rt s t) ∧
    (∃ t, exec (.vasrUhUwRndSat vd vu vv rt) s = .next t ∧ VasrWordResult valUw 0 65535 true vd vu vv rt s t)

/-- vasrUhWSat and vasrUhWRndSat answer a next state for every state and operands and every vector length: element 2k of
Vd comes from element k of Vv and element 2k+1 from element k of Vu (signed words to unsigned halfwords, clamped to
0..65535), each shifted right by Rt mod 16, rounding down without :rnd and after adding half with :rnd when the shift
is not 0 (decisions D15, D16, D17, D28, D30; log 14); no other register, flag, parameter or byte of the text changes;
pc is pc + 4. (basis: derived; R176, R177, R160, R161, R162, R163, R164, R178) -/
def Obligations.VasrWordToUnsignedHalf : Prop :=
  ∀ (vd vu vv : VReg) (rt : GReg) (s : State),
    (∃ t, exec (.vasrUhWSat vd vu vv rt) s = .next t ∧ VasrWordResult valW 0 65535 false vd vu vv rt s t) ∧
    (∃ t, exec (.vasrUhWRndSat vd vu vv rt) s = .next t ∧ VasrWordResult valW 0 65535 true vd vu vv rt s t)

/-- For every integer x: a shift by 0 gives x, rounding or not (decision D16); for n >= 1, the unrounded shift is the
floor of x / 2^n, and the rounded one is the integer y with y*2^n - 2^(n-1) <= x < y*2^n + 2^(n-1). Decisions D15-D17,
log 14. (basis: derived; R163) -/
def Obligations.RoundingShiftGoesToNearestTiesUp : Prop :=
  ∀ (x : Int) (n : Nat), (∀ rnd, shr x 0 rnd = x) ∧
    (shr x n false * 2 ^ n ≤ x ∧ x < (shr x n false + 1) * 2 ^ n) ∧
    (1 ≤ n → shr x n true * 2 ^ n - 2 ^ (n - 1) ≤ x ∧ x < shr x n true * 2 ^ n + 2 ^ (n - 1))

/-- For every integer x: sat8 and sat16 have as signed value x clamped to -128..127 and -32768..32767; usat8 and usat16
have as unsigned value x clamped to 0..255 and 0..65535. The definitions are the spec's decision D28 (log 14). (basis:
derived; R160) -/
def Obligations.NarrowSaturationsClamp : Prop :=
  ∀ x : Int,
    (sat8 x).toInt = max (-128) (min 127 x) ∧ ((usat8 x).toNat : Int) = max 0 (min 255 x) ∧
    (sat16 x).toInt = max (-32768) (min 32767 x) ∧ ((usat16 x).toNat : Int) = max 0 (min 65535 x)

/-- Every one of the 96 instructions answers a next state from every state, on every operand: none faults, refuses or
traps; a well-formed instruction at an aligned pc leaves pc aligned; no byte of the text changes. It rests on log 21 (no
instruction of the spec traps) and log 10 (no read of a register faults, where R39 and R203 give one without a value a
fault). (basis: derived; R201, R60, R102, R141) -/
def Obligations.NoInstructionRaisesAnException : Prop :=
  ∀ (i : Instr) (s : State), ∃ t, exec i s = .next t ∧ SameText s t ∧
    (i.wf = true → aligned s.pc = true → aligned t.pc = true)

/-- Every instruction of class ALU32 or COPROC_VX sets pc to pc + 4, which wraps from 0xFFFFFFFC to 0; an instruction of
class J sets pc to pc + 4 or to pc plus a fixed offset that depends on the instruction alone. Decision D4, log 19.
(basis: derived; R28, R29) -/
def Obligations.OnlyJumpsLeaveTheNextWord : Prop :=
  ∀ i : Instr,
    (i.cls ≠ .j → ∀ s t : State, exec i s = .next t → t.pc = s.pc + 4#32 ∧ (s.pc = 0xFFFFFFFC#32 → t.pc = 0#32)) ∧
    ∃ off : Word, ∀ s t : State, exec i s = .next t → t.pc = s.pc + 4#32 ∨ t.pc = s.pc + off

/-- For every instruction i and state s whose meaning gives t: unless i is of class ALU32 every general register is
unchanged; unless i is a compare-and-jump every predicate is unchanged, and P2 and P3 always are; unless i is a vasr
every vector register is unchanged; the parameters and every byte of the text are unchanged. (basis: derived; R21,
R30, R33, R140, R178) -/
def Obligations.EachGroupWritesOnlyItsOwnRegisters : Prop :=
  ∀ (i : Instr) (s t : State), exec i s = .next t →
    (i.cls ≠ .alu32 → ∀ q : GReg, t.readR q = s.readR q) ∧
    (i.isCompareJump = false → ∀ q : PReg, t.readP q = s.readP q) ∧
    t.readP 2 = s.readP 2 ∧ t.readP 3 = s.readP 3 ∧
    (i.cls ≠ .coprocVx → ∀ q : VReg, t.readV q = s.readV q) ∧ t.params = s.params ∧ SameText s t

/-- For every state s in which pc and HALT_PC are multiples of 4, the text is in canonical form, VLEN_BITS is positive and
every vector register has VLEN_BITS bits: if step s answers next t, t is such a state. (basis: derived; R27, R33, R51,
R60, R221) -/
def Obligations.StepKeepsTheInvariant : Prop :=
  ∀ s t : State, s.Inv → step s = .next t → t.Inv

/-- State.reset satisfies the invariant that every step keeps. Its pc, HALT_PC and register values are the model's choices
(logs 1 to 5). (basis: derived; R38, R221) -/
def Obligations.ResetSatisfiesTheInvariant : Prop :=
  State.reset.Inv

/-- At reset every general register and predicate reads 0, every vector register is VLEN_BITS = 1024 zero bits and OVF is
0 (DESIGN CHOICE, log 1); pc is 0 (log 2), HALT_PC is 0xFFFFFFFC (log 3); VLEN_BITS is 1024 and
ADMIT_UNSOURCED_ENCODINGS false, the spec's defaults (logs 4, 5); the text holds no value at any address. (basis:
derived; 10_state.md section 9, 00_scope.md section 4) -/
def Obligations.ResetValues : Prop :=
  (∀ q : GReg, State.reset.readR q = 0#32) ∧ (∀ q : PReg, State.reset.readP q = 0#8) ∧
    (∀ q : VReg, State.reset.readV q = List.replicate 32 0#32) ∧ State.reset.ovf = false ∧ State.reset.pc = 0#32 ∧
    State.reset.params.haltPc = 0xFFFFFFFC#32 ∧ 32 * State.reset.params.vlenWords = 1024 ∧
    State.reset.params.admitUnsourced = false ∧ ∀ a : Nat, State.reset.textByte a = none

/-- Whatever state t a run of any number of steps from any state s reaches, the parameters of t are those of s and every
byte of the text reads the same. (basis: derived; R60, R37, R222) -/
def Obligations.ProgramTextIsImmutable : Prop :=
  ∀ (k : Nat) (s t : State), Reaches k s t → t.params = s.params ∧ SameText s t

/-- For every state s that satisfies the invariant and every state t that a run from s reaches in any number of steps: t
satisfies the invariant; OVF set in s is set in t; P2 and P3 are unchanged; every vector register is unchanged, as no
word encodes a vasr. (basis: derived; R27, R30, R31, R85) -/
def Obligations.RunsKeepInvariantStickyFlagAndVectors : Prop :=
  ∀ (k : Nat) (s t : State), s.Inv → Reaches k s t →
    t.Inv ∧ (s.ovf = true → t.ovf = true) ∧ t.readP 2 = s.readP 2 ∧ t.readP 3 = s.readP 3 ∧
    ∀ q : VReg, t.readV q = s.readV q

/-- Two states with the same pc and the same parameters (text, HALT_PC, VLEN_BITS, switch), whatever their registers and
flag: a step of the one faults with f exactly when a step of the other does, refuses with r exactly when the other does,
and answers a next state exactly when the other does; and a state whose step stops is not final. Check (6) of R202 does
not arise (log 10). (basis: derived; R202, R203, R226) -/
def Obligations.StopsDependOnPcAndParametersAlone : Prop :=
  ∀ s s' : State, s.pc = s'.pc → s.params = s'.params →
    (∀ f : Fault, step s = .fault f ↔ step s' = .fault f) ∧
    (∀ r : Refusal, step s = .refused r ↔ step s' = .refused r) ∧
    ((∃ t, step s = .next t) ↔ ∃ t', step s' = .next t') ∧
    ((¬ ∃ t, step s = .next t) → s.final = false)

/-- In a state whose pc is HALT_PC, every number of steps answers the same state, whatever the text holds there. That a
step of a final state answers the state itself is the model's choice (log 9). (basis: derived; R226, R202) -/
def Obligations.FinalStatesStay : Prop :=
  ∀ (s : State), s.pc = s.params.haltPc → ∀ k : Nat, Reaches k s s

/-- A step faults exactly when pc is not HALT_PC and the text holds no word at pc, and the fault is FetchOutsideText(pc);
it refuses only when the text holds a word w at pc, and then as ParseNotSingle(w) with Parse other than 11, as
NoSuchEncoding(w) with Parse 11, or as UnsourcedEncoding(w) with the switch off and a word that decodes. R202's check
(6) does not arise (log 10). (basis: derived; R202, R203) -/
def Obligations.StepsStopOnlyAsTheChecksSay : Prop :=
  ∀ s : State,
    (∀ f : Fault, step s = .fault f ↔
      s.pc ≠ s.params.haltPc ∧ s.params.text.fetch s.pc = none ∧ f = .fetchOutsideText s.pc) ∧
    (∀ r : Refusal, step s = .refused r → s.pc ≠ s.params.haltPc ∧ ∃ w, s.params.text.fetch s.pc = some w ∧
      ((r = .parseNotSingle w ∧ fieldParse w ≠ 3#2) ∨ (r = .noSuchEncoding w ∧ fieldParse w = 3#2) ∨
        (r = .unsourcedEncoding w ∧ s.params.admitUnsourced = false ∧ ∃ i, decode w = .ok i)))

/-- launch answers refuse(MisalignedEntry) when ENTRY_PC or HALT_PC is not a multiple of 4, and a next state when both
are. That nothing else is refused, neither VLEN_BITS = 0 nor a text address that is no multiple of 4 or is listed twice,
which the spec does not admit and says nothing of, is the model's choice (log 22). (basis: derived; R221) -/
def Obligations.LaunchRefusesMisalignedAddresses : Prop :=
  ∀ l : Launch,
    (launch l = .refused .misalignedEntry ↔ l.entryPc.toNat % 4 ≠ 0 ∨ l.haltPc.toNat % 4 ≠ 0) ∧
    ((∃ s, launch l = .next s) ↔ l.entryPc.toNat % 4 = 0 ∧ l.haltPc.toNat % 4 = 0)

/-- When launch answers next s: pc is ENTRY_PC; each general and predicate register holds the value of the host's last
entry for it, else 0; each vector register holds the host's last entry for it fitted to VLEN_BITS, else VLEN_BITS zero
bits; OVF holds LAUNCH_OVF, else 0; HALT_PC, VLEN_BITS, the switch and the text are the host's. The zeros, the last
entry, the fitting and the last word for a text address listed twice are the model's choice (logs 1, 22). (basis:
derived; R38, R227) -/
def Obligations.LaunchStateHoldsTheGivenValues : Prop :=
  ∀ (l : Launch) (s : State), launch l = .next s →
    s.pc = l.entryPc ∧ (∀ q : GReg, s.readR q = launchedValue l.launchR q) ∧
    (∀ q : PReg, s.readP q = launchedValue l.launchP q) ∧
    (∀ q : VReg, s.readV q = launchedVector l.vlenWords l.launchV q) ∧ s.ovf = l.launchOvf.getD false ∧
    s.params.haltPc = l.haltPc ∧ s.params.vlenWords = l.vlenWords ∧ s.params.admitUnsourced = l.admitUnsourced ∧
    s.params.text = loadText l.text

/-- For a text whose addresses are multiples of 4, all different: the word fetched at each of its addresses is the word
loaded there, and every other address has no word. (basis: derived; R51, R53) -/
def Obligations.LoadedTextIsFetched : Prop :=
  ∀ cs : List (Word × Word), (∀ c ∈ cs, aligned c.1 = true) → (cs.map Prod.fst).Nodup →
    (∀ c ∈ cs, (loadText cs).fetch c.1 = some c.2) ∧ ∀ a : Word, a ∉ cs.map Prod.fst → (loadText cs).fetch a = none

/-- When the parameters are well formed (VLEN_BITS positive, text addresses multiples of 4) and launch answers next s, s
satisfies the invariant that every step keeps. (basis: derived; R221, R38, R33) -/
def Obligations.LaunchesSatisfyTheInvariant : Prop :=
  ∀ (l : Launch) (s : State), l.wf = true → launch l = .next s → s.Inv

/-- launch with an empty text, no launch values, the spec's defaults for VLEN_BITS and the switch, and the model's
ENTRY_PC and HALT_PC (logs 2, 3) answers next State.reset. That a register without a launch value holds 0 is the model's
choice too (log 1), where the spec gives it no value. (basis: derived; R38, R220) -/
def Obligations.ResetIsTheDefaultLaunch : Prop :=
  launch Launch.default = .next State.reset

/-- For every state whose pc is a multiple of 4 and every word w that decodes to i: one step from s.withFetchWord 32 w is
exec of i at that state; and withFetchWord changes no register, flag or pc. It stands for the launch that supplies
text, switch and HALT_PC (log 8). (basis: derived; R227, R86) -/
def Obligations.PlacedInstructionRunsNext : Prop :=
  ∀ (s : State) (w : Word) (i : Instr), aligned s.pc = true → decode w = .ok i →
    step (s.withFetchWord 32 w.toNat) = exec i (s.withFetchWord 32 w.toNat) ∧
    (s.withFetchWord 32 w.toNat).r = s.r ∧ (s.withFetchWord 32 w.toNat).p = s.p ∧
    (s.withFetchWord 32 w.toNat).v = s.v ∧ (s.withFetchWord 32 w.toNat).ovf = s.ovf ∧
    (s.withFetchWord 32 w.toNat).pc = s.pc

/-- If Fetch(a) is w then a is a multiple of 4 and the bytes of the text at a, a+1, a+2, a+3 are bits 7:0, 15:8, 23:16,
31:24 of w. The byte order is the spec's decision D3 (log 7). (basis: derived; R53, R51, R54) -/
def Obligations.FetchedWordsAreLittleEndian : Prop :=
  ∀ (m : Memory) (a w : Word), m.fetch a = some w →
    a.toNat % 4 = 0 ∧ m.read a.toNat = some (w.extractLsb' 0 8) ∧ m.read (a.toNat + 1) = some (w.extractLsb' 8 8) ∧
    m.read (a.toNat + 2) = some (w.extractLsb' 16 8) ∧ m.read (a.toNat + 3) = some (w.extractLsb' 24 8)

/-- shamt is bits 2:0 of Rt, 0..7, for the 6 instructions with 16-bit source elements, and bits 3:0, 0..15, for the 7
with 32-bit source elements. For each of the 13, every operand and every state: with n that amount, every element of Vv
and of Vu is shifted by n, with :rnd rounding, and converted, into the low and the high half of the element of Vd with
its index; with any two values of Rt that agree in those bits the next states have the same vector registers, so the
upper bits of Rt are ignored; and equal source elements, at any two places of Vu, of Vv, or of one in each, give equal
results, as the same shamt applies to every element of both sources. What the shift and the conversions do with n, and
the numbering of elements, rests on decisions D15, D16, D17, D28, D29, D30 (log 14). (basis: derived; R162, R164, R163,
R160) -/
def Obligations.VasrShiftAmountIsTheLowBitsOfRt : Prop :=
  (∀ x : Word, shamt16 x = (x &&& 7#32).toNat ∧ shamt16 x ≤ 7 ∧ shamt32 x = (x &&& 15#32).toNat ∧ shamt32 x ≤ 15) ∧
    (∀ c ∈ vasrHalfSources, OneAmount 7#32 (fun x k => elem16 x k) (fun x k => elem8 x (2 * k))
      (fun x k => elem8 x (2 * k + 1)) 2 c.2 c.1) ∧
    (∀ c ∈ vasrWordSources, OneAmount 15#32 (fun x k => elem32 x k) (fun x k => elem16 x (2 * k))
      (fun x k => elem16 x (2 * k + 1)) 1 c.2 c.1)
end

