-- ==== Sys2Proof/Laws/Decode.lean ====
section
/-! SUPPORT. Lemmas about the opcode table and the decoder: the rows are pairwise disjoint (30_encoding.md R86), what a
successful decode can be, and the fields that the encoder places. -/

namespace Sys2Proof

/-- Two rows that no word selects together: they differ in a bit that both masks hold. -/
def Row.disjoint (r q : Row) : Bool := (r.mask &&& q.mask) &&& (r.matchBits ^^^ q.matchBits) != 0#32

/-- A word that selects a row selects no row disjoint from it. -/
theorem Row.not_selects_of_disjoint {r q : Row} {w : Word} (h : r.disjoint q = true) (hr : r.selects w = true) :
    q.selects w = false := by
  by_contra hq
  simp only [Bool.not_eq_false] at hq
  simp only [Row.selects, beq_iff_eq] at hr hq
  simp only [Row.disjoint, ← hr, ← hq, bne_iff_ne, ne_eq] at h
  apply h
  apply BitVec.eq_of_getLsbD_eq
  intro i hi
  simp only [BitVec.getLsbD_and, BitVec.getLsbD_xor, BitVec.getLsbD_zero]
  cases r.mask.getLsbD i <;> cases q.mask.getLsbD i <;> cases w.getLsbD i <;> rfl

/-- The first row that fits is the only one, in a list of pairwise disjoint rows. -/
theorem find_of_disjoint {l : List Row} (hl : l.Pairwise fun r q => r.disjoint q = true) {r : Row} {w : Word} (hm : r ∈ l)
    (hr : r.selects w = true) : l.find? (fun r => r.selects w) = some r := by
  induction l with
  | nil => cases hm
  | cons q l ih =>
    rw [List.pairwise_cons] at hl
    rw [List.find?_cons]
    rcases List.mem_cons.1 hm with rfl | hm
    · rw [hr]
    · have hq : q.selects w = false := by
        by_contra h
        simp only [Bool.not_eq_false] at h
        exact absurd (Row.not_selects_of_disjoint (hl.1 r hm) h) (by simp [hr])
      rw [hq]
      exact ih hl.2 hm

/-- "The rows are pairwise disjoint" (R86). -/
theorem rows_disjoint : rows.Pairwise fun r q => r.disjoint q = true := by decide

/-- What a row found by the decoder is. -/
theorem decodeRow_ok {w : Word} {r : Row} (h : decodeRow w = .ok r) :
    fieldParse w = 3#2 ∧ r ∈ rows ∧ r.selects w = true := by
  simp only [decodeRow] at h
  split at h
  · rename_i hp
    split at h
    · rename_i q hq
      cases h
      exact ⟨hp, List.mem_of_find?_eq_some hq, by simpa using List.find?_some hq⟩
    · cases h
  · cases h

/-- What a decoded instruction is. -/
theorem decode_ok {w : Word} {i : Instr} (h : decode w = .ok i) :
    ∃ r, decodeRow w = .ok r ∧ i = r.build w := by
  simp only [decode] at h
  split at h
  · rename_i r hr; cases h; exact ⟨r, hr, rfl⟩
  · cases h

/-! ## The fields of the register encodings -/

/-- Reading back the 4-bit field of a register of R0..R7 or R16..R23 (R80). -/
theorem cjReg_cjField (r : GReg) (h : cjRegOk r = true) : cjReg (cjField r) = r := by
  revert h; revert r; decide

/-- Every 4-bit field names a register of R0..R7 or R16..R23 (R80). -/
theorem cjRegOk_cjReg (b : BitVec 4) : cjRegOk (cjReg b) = true := by
  revert b; decide

/-- Reading back a 5-bit register field (R82, R83). -/
theorem gReg_ofNat (r : GReg) : gReg (BitVec.ofNat 5 r.val) = r := by
  revert r; decide

end Sys2Proof
end

