-- ==== Sys2Proof/Laws/Memory.lean ====
section
/-! SUPPORT. The laws of the program text: read after write, the canonical form is kept by every operation, and a word
stored at an aligned address is the word fetched there. -/

namespace Sys2Proof.Machine

open Sys2Proof

/-! ## Read after write -/

theorem Memory.read_cons (c : Host.Cell) (m : Memory) (a : Nat) :
    Memory.read (c :: m) a = if c.1 = a then some c.2 else Memory.read m a := rfl

/-- A byte written is the byte read; every other address reads as before. -/
theorem Memory.read_write (m : Memory) (a b : Nat) (x : Byte) :
    (m.write a x).read b = if a = b then some x else m.read b := by
  induction m with
  | nil => rfl
  | cons c m ih =>
    simp only [Memory.write]
    split
    · rfl
    · split
      · rename_i h; subst h
        simp only [Memory.read_cons]
        split <;> rfl
      · rename_i h
        simp only [Memory.read_cons, ih]
        by_cases hb : c.1 = b
        · subst hb; rw [if_pos rfl, if_neg (fun e => h e.symm), if_pos rfl]
        · simp [hb]

/-- An erased address holds no value; every other address reads as before. -/
theorem Memory.read_erase (m : Memory) (a b : Nat) :
    (m.erase a).read b = if a = b then none else m.read b := by
  induction m with
  | nil => simp [Memory.erase, Memory.read]
  | cons c m ih =>
    simp only [Memory.erase]
    split
    · rename_i h
      rw [ih, Memory.read_cons]
      by_cases hb : a = b
      · simp [hb]
      · simp [hb, h]
    · rename_i h
      rw [Memory.read_cons, ih, Memory.read_cons]
      by_cases hb : a = b
      · subst hb; simp [h]
      · simp [hb]

/-! ## The canonical form -/

theorem Memory.risesFrom_mono {lo lo' : Nat} (h : lo' ≤ lo) (m : Memory) (hm : Memory.risesFrom lo m = true) :
    Memory.risesFrom lo' m = true := by
  cases m with
  | nil => rfl
  | cons c m =>
    simp only [Memory.risesFrom, Bool.and_eq_true, decide_eq_true_eq] at hm ⊢
    exact ⟨le_trans h hm.1, hm.2⟩

theorem Memory.risesFrom_write (m : Memory) (lo a : Nat) (x : Byte) (ha : lo ≤ a)
    (hm : Memory.risesFrom lo m = true) : Memory.risesFrom lo (m.write a x) = true := by
  induction m generalizing lo with
  | nil => simp [Memory.write, Memory.risesFrom, ha]
  | cons c m ih =>
    simp only [Memory.risesFrom, Bool.and_eq_true, decide_eq_true_eq] at hm
    simp only [Memory.write]
    split
    · rename_i h
      simp only [Memory.risesFrom, Bool.and_eq_true, decide_eq_true_eq]
      exact ⟨ha, h, hm.2⟩
    · split
      · rename_i h; subst h
        simp only [Memory.risesFrom, Bool.and_eq_true, decide_eq_true_eq]
        exact ⟨ha, hm.2⟩
      · simp only [Memory.risesFrom, Bool.and_eq_true, decide_eq_true_eq]
        exact ⟨hm.1, ih _ (by omega) hm.2⟩

theorem Memory.risesFrom_erase (m : Memory) (lo a : Nat) (hm : Memory.risesFrom lo m = true) :
    Memory.risesFrom lo (m.erase a) = true := by
  induction m generalizing lo with
  | nil => rfl
  | cons c m ih =>
    simp only [Memory.risesFrom, Bool.and_eq_true, decide_eq_true_eq] at hm
    simp only [Memory.erase]
    split
    · exact ih lo (Memory.risesFrom_mono (by omega) m hm.2)
    · simp only [Memory.risesFrom, Bool.and_eq_true, decide_eq_true_eq]
      exact ⟨hm.1, ih _ hm.2⟩

theorem Memory.all_write (f : Host.Cell → Bool) (m : Memory) (a : Nat) (x : Byte) (ha : f (a, x) = true)
    (hm : m.all f = true) : (m.write a x).all f = true := by
  induction m with
  | nil => simp [Memory.write, ha]
  | cons c m ih =>
    simp only [List.all_cons, Bool.and_eq_true] at hm
    simp only [Memory.write]
    split
    · simp only [List.all_cons, Bool.and_eq_true]; exact ⟨ha, hm⟩
    · split
      · simp only [List.all_cons, Bool.and_eq_true]; exact ⟨ha, hm.2⟩
      · simp only [List.all_cons, Bool.and_eq_true]; exact ⟨hm.1, ih hm.2⟩

theorem Memory.all_erase (f : Host.Cell → Bool) (m : Memory) (a : Nat) (hm : m.all f = true) :
    (m.erase a).all f = true := by
  induction m with
  | nil => rfl
  | cons c m ih =>
    simp only [List.all_cons, Bool.and_eq_true] at hm
    simp only [Memory.erase]
    split
    · exact ih hm.2
    · simp only [List.all_cons, Bool.and_eq_true]; exact ⟨hm.1, ih hm.2⟩

/-- Writing a byte inside the address space keeps the canonical form. -/
theorem Memory.wf_write (m : Memory) (a : Nat) (x : Byte) (ha : a < 2 ^ 32) (hm : m.wf = true) :
    (m.write a x).wf = true := by
  simp only [Memory.wf, Bool.and_eq_true] at hm ⊢
  exact ⟨Memory.risesFrom_write m 0 a x (Nat.zero_le _) hm.1, Memory.all_write _ m a x (by simpa using ha) hm.2⟩

/-- Erasing a byte keeps the canonical form. -/
theorem Memory.wf_erase (m : Memory) (a : Nat) (hm : m.wf = true) : (m.erase a).wf = true := by
  simp only [Memory.wf, Bool.and_eq_true] at hm ⊢
  exact ⟨Memory.risesFrom_erase m 0 a hm.1, Memory.all_erase _ m a hm.2⟩

/-- Storing a word keeps the canonical form. -/
theorem Memory.wf_writeWord (m : Memory) (a w : Word) (hm : m.wf = true) : (m.writeWord a w).wf = true := by
  have h := fun (m : Memory) (b : Word) (x : Byte) (hm : m.wf = true) => Memory.wf_write m b.toNat x b.isLt hm
  exact h _ _ _ (h _ _ _ (h _ _ _ (h _ _ _ hm)))

/-- Loading a program text gives a canonical text. -/
theorem wf_loadText (cs : List (Word × Word)) : (loadText cs).wf = true := by
  have h : ∀ (cs : List (Word × Word)) (m : Memory), m.wf = true →
      (cs.foldl (fun m c => m.writeWord c.1 c.2) m).wf = true := by
    intro cs
    induction cs with
    | nil => intro m hm; exact hm
    | cons c cs ih => intro m hm; exact ih _ (Memory.wf_writeWord m c.1 c.2 hm)
  exact h cs [] rfl

/-! ## Words -/

/-- The four bytes of a word make the word. -/
theorem wordOfBytes_byteOfWord (w : Word) :
    wordOfBytes (byteOfWord w 0) (byteOfWord w 1) (byteOfWord w 2) (byteOfWord w 3) = w := by
  apply BitVec.eq_of_getLsbD_eq
  intro i hi
  simp only [wordOfBytes, byteOfWord, BitVec.getLsbD_append, BitVec.getLsbD_extractLsb']
  split
  · rename_i h
    simp [h]
  · split
    · rename_i h
      simp only [h, decide_true, Bool.true_and]; congr 1; omega
    · split
      · rename_i h
        simp only [h, decide_true, Bool.true_and]; congr 1; omega
      · have h : i - 8 - 8 - 8 < 8 := by omega
        simp only [h, decide_true, Bool.true_and]; congr 1; omega

theorem aligned_iff (a : Word) : aligned a = true ↔ a.toNat % 4 = 0 := by
  simp only [aligned, beq_iff_eq, ← BitVec.toNat_inj, BitVec.extractLsb'_toNat]
  simp

/-- A word stored at an aligned address is the word fetched there. -/
theorem Memory.fetch_writeWord (m : Memory) (a w : Word) (ha : aligned a = true) :
    (m.writeWord a w).fetch a = some w := by
  have h4 := (aligned_iff a).1 ha
  have hlt := a.isLt
  have h1 : (a + 1#32).toNat = a.toNat + 1 := by simp [BitVec.toNat_add]; omega
  have h2 : (a + 2#32).toNat = a.toNat + 2 := by simp [BitVec.toNat_add]; omega
  have h3 : (a + 3#32).toNat = a.toNat + 3 := by simp [BitVec.toNat_add]; omega
  simp only [Memory.fetch, ha, if_true, Memory.writeWord, Memory.read_write, h1, h2, h3]
  simp [wordOfBytes_byteOfWord]

end Sys2Proof.Machine
end

