-- ==== Sys2Proof/Laws/State.lean ====
section
/-! SUPPORT. The small lemmas of the register operations: one per field per update, and reading back what was written. -/

namespace Sys2Proof.Machine

open Sys2Proof

@[simp] theorem State.writeR_readP (s : State) (i : GReg) (x : Word) (q : PReg) : (s.writeR i x).readP q = s.readP q := rfl
@[simp] theorem State.writeR_readV (s : State) (i : GReg) (x : Word) (q : VReg) : (s.writeR i x).readV q = s.readV q := rfl
@[simp] theorem State.writeR_p (s : State) (i : GReg) (x : Word) : (s.writeR i x).p = s.p := rfl
@[simp] theorem State.writeR_v (s : State) (i : GReg) (x : Word) : (s.writeR i x).v = s.v := rfl
@[simp] theorem State.writeR_ovf (s : State) (i : GReg) (x : Word) : (s.writeR i x).ovf = s.ovf := rfl
@[simp] theorem State.writeR_pc (s : State) (i : GReg) (x : Word) : (s.writeR i x).pc = s.pc := rfl
@[simp] theorem State.writeR_params (s : State) (i : GReg) (x : Word) : (s.writeR i x).params = s.params := rfl
@[simp] theorem State.writeR_textByte (s : State) (i : GReg) (x : Word) (k : Nat) : (s.writeR i x).textByte k = s.textByte k := rfl

@[simp] theorem State.writeP_readR (s : State) (i : PReg) (x : Byte) (q : GReg) : (s.writeP i x).readR q = s.readR q := rfl
@[simp] theorem State.writeP_readV (s : State) (i : PReg) (x : Byte) (q : VReg) : (s.writeP i x).readV q = s.readV q := rfl
@[simp] theorem State.writeP_r (s : State) (i : PReg) (x : Byte) : (s.writeP i x).r = s.r := rfl
@[simp] theorem State.writeP_v (s : State) (i : PReg) (x : Byte) : (s.writeP i x).v = s.v := rfl
@[simp] theorem State.writeP_ovf (s : State) (i : PReg) (x : Byte) : (s.writeP i x).ovf = s.ovf := rfl
@[simp] theorem State.writeP_pc (s : State) (i : PReg) (x : Byte) : (s.writeP i x).pc = s.pc := rfl
@[simp] theorem State.writeP_params (s : State) (i : PReg) (x : Byte) : (s.writeP i x).params = s.params := rfl
@[simp] theorem State.writeP_textByte (s : State) (i : PReg) (x : Byte) (k : Nat) : (s.writeP i x).textByte k = s.textByte k := rfl

@[simp] theorem State.writeV_readR (s : State) (i : VReg) (x : VecVal) (q : GReg) : (s.writeV i x).readR q = s.readR q := rfl
@[simp] theorem State.writeV_readP (s : State) (i : VReg) (x : VecVal) (q : PReg) : (s.writeV i x).readP q = s.readP q := rfl
@[simp] theorem State.writeV_r (s : State) (i : VReg) (x : VecVal) : (s.writeV i x).r = s.r := rfl
@[simp] theorem State.writeV_p (s : State) (i : VReg) (x : VecVal) : (s.writeV i x).p = s.p := rfl
@[simp] theorem State.writeV_ovf (s : State) (i : VReg) (x : VecVal) : (s.writeV i x).ovf = s.ovf := rfl
@[simp] theorem State.writeV_pc (s : State) (i : VReg) (x : VecVal) : (s.writeV i x).pc = s.pc := rfl
@[simp] theorem State.writeV_params (s : State) (i : VReg) (x : VecVal) : (s.writeV i x).params = s.params := rfl
@[simp] theorem State.writeV_textByte (s : State) (i : VReg) (x : VecVal) (k : Nat) : (s.writeV i x).textByte k = s.textByte k := rfl

@[simp] theorem State.orOvf_readR (s : State) (c : Bool) (q : GReg) : (s.orOvf c).readR q = s.readR q := rfl
@[simp] theorem State.orOvf_readP (s : State) (c : Bool) (q : PReg) : (s.orOvf c).readP q = s.readP q := rfl
@[simp] theorem State.orOvf_readV (s : State) (c : Bool) (q : VReg) : (s.orOvf c).readV q = s.readV q := rfl
@[simp] theorem State.orOvf_r (s : State) (c : Bool) : (s.orOvf c).r = s.r := rfl
@[simp] theorem State.orOvf_p (s : State) (c : Bool) : (s.orOvf c).p = s.p := rfl
@[simp] theorem State.orOvf_v (s : State) (c : Bool) : (s.orOvf c).v = s.v := rfl
@[simp] theorem State.orOvf_pc (s : State) (c : Bool) : (s.orOvf c).pc = s.pc := rfl
@[simp] theorem State.orOvf_params (s : State) (c : Bool) : (s.orOvf c).params = s.params := rfl
@[simp] theorem State.orOvf_textByte (s : State) (c : Bool) (k : Nat) : (s.orOvf c).textByte k = s.textByte k := rfl
@[simp] theorem State.orOvf_ovf (s : State) (c : Bool) : (s.orOvf c).ovf = (s.ovf || c) := rfl

@[simp] theorem State.setPc_readR (s : State) (a : Word) (q : GReg) : (s.setPc a).readR q = s.readR q := rfl
@[simp] theorem State.setPc_readP (s : State) (a : Word) (q : PReg) : (s.setPc a).readP q = s.readP q := rfl
@[simp] theorem State.setPc_readV (s : State) (a : Word) (q : VReg) : (s.setPc a).readV q = s.readV q := rfl
@[simp] theorem State.setPc_r (s : State) (a : Word) : (s.setPc a).r = s.r := rfl
@[simp] theorem State.setPc_p (s : State) (a : Word) : (s.setPc a).p = s.p := rfl
@[simp] theorem State.setPc_v (s : State) (a : Word) : (s.setPc a).v = s.v := rfl
@[simp] theorem State.setPc_ovf (s : State) (a : Word) : (s.setPc a).ovf = s.ovf := rfl
@[simp] theorem State.setPc_params (s : State) (a : Word) : (s.setPc a).params = s.params := rfl
@[simp] theorem State.setPc_textByte (s : State) (a : Word) (k : Nat) : (s.setPc a).textByte k = s.textByte k := rfl
@[simp] theorem State.setPc_pc (s : State) (a : Word) : (s.setPc a).pc = a := rfl

@[simp] theorem State.advancePc_readR (s : State) (q : GReg) : s.advancePc.readR q = s.readR q := rfl
@[simp] theorem State.advancePc_readP (s : State) (q : PReg) : s.advancePc.readP q = s.readP q := rfl
@[simp] theorem State.advancePc_readV (s : State) (q : VReg) : s.advancePc.readV q = s.readV q := rfl
@[simp] theorem State.advancePc_r (s : State) : s.advancePc.r = s.r := rfl
@[simp] theorem State.advancePc_p (s : State) : s.advancePc.p = s.p := rfl
@[simp] theorem State.advancePc_v (s : State) : s.advancePc.v = s.v := rfl
@[simp] theorem State.advancePc_ovf (s : State) : s.advancePc.ovf = s.ovf := rfl
@[simp] theorem State.advancePc_params (s : State) : s.advancePc.params = s.params := rfl
@[simp] theorem State.advancePc_textByte (s : State) (k : Nat) : s.advancePc.textByte k = s.textByte k := rfl
@[simp] theorem State.advancePc_pc (s : State) : s.advancePc.pc = s.pc + 4#32 := rfl

/-- Reading the register just written gives the value written. -/
@[simp] theorem State.writeR_readR_same (s : State) (i : GReg) (x : Word) : (s.writeR i x).readR i = x :=
  Vector.getElem_set_self i.isLt

/-- Reading any other register gives its old value. -/
theorem State.writeR_readR_other (s : State) (i q : GReg) (x : Word) (h : q ≠ i) : (s.writeR i x).readR q = s.readR q :=
  Vector.getElem_set_ne i.isLt q.isLt (fun e => h (Fin.ext e.symm))

/-- Reading after a write, in one equation. -/
theorem State.writeR_readR (s : State) (i q : GReg) (x : Word) :
    (s.writeR i x).readR q = if q = i then x else s.readR q := by
  by_cases h : q = i
  · subst h; simp
  · rw [if_neg h, State.writeR_readR_other s i q x h]

/-- Reading the register just written gives the value written. -/
@[simp] theorem State.writeP_readP_same (s : State) (i : PReg) (x : Byte) : (s.writeP i x).readP i = x :=
  Vector.getElem_set_self i.isLt

/-- Reading any other register gives its old value. -/
theorem State.writeP_readP_other (s : State) (i q : PReg) (x : Byte) (h : q ≠ i) : (s.writeP i x).readP q = s.readP q :=
  Vector.getElem_set_ne i.isLt q.isLt (fun e => h (Fin.ext e.symm))

/-- Reading after a write, in one equation. -/
theorem State.writeP_readP (s : State) (i q : PReg) (x : Byte) :
    (s.writeP i x).readP q = if q = i then x else s.readP q := by
  by_cases h : q = i
  · subst h; simp
  · rw [if_neg h, State.writeP_readP_other s i q x h]

/-- Reading the register just written gives the value written. -/
@[simp] theorem State.writeV_readV_same (s : State) (i : VReg) (x : VecVal) : (s.writeV i x).readV i = x :=
  Vector.getElem_set_self i.isLt

/-- Reading any other register gives its old value. -/
theorem State.writeV_readV_other (s : State) (i q : VReg) (x : VecVal) (h : q ≠ i) : (s.writeV i x).readV q = s.readV q :=
  Vector.getElem_set_ne i.isLt q.isLt (fun e => h (Fin.ext e.symm))

/-- Reading after a write, in one equation. -/
theorem State.writeV_readV (s : State) (i q : VReg) (x : VecVal) :
    (s.writeV i x).readV q = if q = i then x else s.readV q := by
  by_cases h : q = i
  · subst h; simp
  · rw [if_neg h, State.writeV_readV_other s i q x h]

end Sys2Proof.Machine
end

