-- ==== Sys2Proof/Laws/Exec.lean ====
section
/-! SUPPORT. What the shared operations can do, said once: the effect of a compare-and-jump, of a jump on register, of an
Add, of a `vasr`; the one shape every instruction's meaning has; and the cases of a step. -/

namespace Sys2Proof.Machine

open Sys2Proof

theorem newBit_predValue (c : Bool) : newBit (predValue c) = c := by cases c <;> rfl

/-- The alignment of a sum with an aligned summand. -/
theorem aligned_add {a b : Word} (ha : aligned a = true) (hb : aligned b = true) : aligned (a + b) = true := by
  rw [aligned_iff] at *
  rw [BitVec.toNat_add]; omega

/-- A masked offset is a multiple of 4 (R102). -/
theorem aligned_mask (x : Word) : aligned (x &&& ~~~Config.pcAlignMask) = true := by
  simp only [aligned, beq_iff_eq, Config.pcAlignMask]
  apply BitVec.eq_of_getLsbD_eq
  intro i hi
  have : i = 0 ∨ i = 1 := by omega
  rcases this with rfl | rfl <;> simp

/-- A multiple of 4 is aligned as a 32-bit offset (R141). -/
theorem aligned_immWord {x : Int} (h : x % 4 = 0) : aligned (immWord x) = true := by
  rw [aligned_iff, immWord, BitVec.toNat_ofInt]
  omega

/-- What a compare-and-jump answers (R101, R102). -/
theorem compareAndJump_eq (d : CjPred) (n : Sense) (c : Bool) (off : Int) (s : State) :
    compareAndJump d n c off s =
      .next ((s.writeP d.reg (predValue c)).setPc (if takes n c then cjTarget s.pc off else s.pc + 4#32)) := by
  simp only [compareAndJump, newBit_predValue]
  split <;> rfl

/-- What a jump on register answers (R141). -/
theorem jumpOnRegister_eq (c : Bool) (off : Int) (s : State) :
    jumpOnRegister c off s = .next (s.setPc (if c then jrTarget s.pc off else s.pc + 4#32)) := by
  simp only [jumpOnRegister]
  split <;> rfl

theorem length_ofElems32 (n : Nat) (f : Nat → Word) : (ofElems32 n f).length = n := by simp [ofElems32]

theorem length_ofElems16 (n : Nat) (f : Nat → Half) : (ofElems16 n f).length = n := by simp [ofElems16]

/-- The four shapes a meaning's next state has. -/
inductive Shape (i : Instr) (s : State) : State → Prop where
  | compareJump (d : CjPred) (n : Sense) (c : Bool) (off : Int) (hf : i.isCompareJump = true) :
      Shape i s ((s.writeP d.reg (predValue c)).setPc (if takes n c then cjTarget s.pc off else s.pc + 4#32))
  | jumpOnRegister (c : Bool) (off : Int) (hf : i.format = .jr) (hoff : i.wf = true → off % 4 = 0) :
      Shape i s (s.setPc (if c then jrTarget s.pc off else s.pc + 4#32))
  | add (rd : GReg) (x : Word) (o : Bool) (hf : i.cls = .alu32) :
      Shape i s ((s.writeR rd x).orOvf o).advancePc
  | vasr (vd : VReg) (x : VecVal) (hx : x.length = s.params.vlenWords) (hf : i.format = .hvxUnknown) :
      Shape i s (s.writeV vd x).advancePc

theorem shape_compareAndJump {i : Instr} {s : State} (hf : i.isCompareJump = true) {d : CjPred} {n : Sense} {c : Bool} {off : Int}
    (he : exec i s = compareAndJump d n c off s) : ∃ t, exec i s = .next t ∧ Shape i s t :=
  ⟨_, he.trans (compareAndJump_eq d n c off s), .compareJump d n c off hf⟩

theorem shape_jumpOnRegister {i : Instr} {s : State} (hf : i.format = .jr) {c : Bool} {off : Int}
    (he : exec i s = jumpOnRegister c off s) (hoff : i.wf = true → off % 4 = 0) :
    ∃ t, exec i s = .next t ∧ Shape i s t :=
  ⟨_, he.trans (jumpOnRegister_eq c off s), .jumpOnRegister c off hf hoff⟩

theorem shape_vasr16 {i : Instr} {s : State} (hf : i.format = .hvxUnknown) {val : Half → Int} {conv : Int → Byte} {rnd : Bool}
    {vd vu vv : VReg} {rt : GReg} (he : exec i s = vasr16 val conv rnd vd vu vv rt s) :
    ∃ t, exec i s = .next t ∧ Shape i s t :=
  ⟨_, he, .vasr vd _ (length_ofElems16 _ _) hf⟩

theorem shape_vasr32 {i : Instr} {s : State} (hf : i.format = .hvxUnknown) {val : Word → Int} {conv : Int → Half} {rnd : Bool}
    {vd vu vv : VReg} {rt : GReg} (he : exec i s = vasr32 val conv rnd vd vu vv rt s) :
    ∃ t, exec i s = .next t ∧ Shape i s t :=
  ⟨_, he, .vasr vd _ (length_ofElems32 _ _) hf⟩

theorem State.orOvf_false (s : State) : s.orOvf false = s := by
  cases s; simp [State.orOvf]

theorem r13Ok_dvd {off : Int} (h : r13Ok off = true) : off % 4 = 0 := by
  simp only [r13Ok, Bool.and_eq_true, decide_eq_true_eq] at h; exact h.1

/-- Every meaning answers a next state of one of the four shapes. -/
theorem exec_shape (i : Instr) (s : State) : ∃ t, exec i s = .next t ∧ Shape i s t := by
  cases i
  case addImm rd rs s16 =>
    refine ⟨_, rfl, ?_⟩
    rw [← State.orOvf_false (s.writeR rd _)]; exact .add rd _ false rfl
  case addReg rd rs rt =>
    refine ⟨_, rfl, ?_⟩
    rw [← State.orOvf_false (s.writeR rd _)]; exact .add rd _ false rfl
  case addRegSat rd rs rt => exact ⟨_, rfl, .add rd _ _ rfl⟩
  case vasrBHSat | vasrBHRndSat | vasrUbHSat | vasrUbHRndSat | vasrUbUhSat | vasrUbUhRndSat => exact shape_vasr16 rfl rfl
  case vasrHWRndSat | vasrHW | vasrHWSat | vasrUhUwSat | vasrUhUwRndSat | vasrUhWSat | vasrUhWRndSat =>
    exact shape_vasr32 rfl rfl
  case jumpNeNt | jumpNeT | jumpLeNt | jumpLeT | jumpEqNt | jumpEqT | jumpGeNt | jumpGeT =>
    exact shape_jumpOnRegister rfl rfl r13Ok_dvd
  all_goals exact shape_compareAndJump rfl rfl

/-- The cases of a fetch that gives an instruction (R202 checks 2 to 5). -/
theorem fetchInstr_next {s : State} {i : Instr} (h : fetchInstr s = .next i) :
    ∃ w r, s.params.text.fetch s.pc = some w ∧ decodeRow w = .ok r ∧ admits s.params r = true ∧ i = r.build w := by
  simp only [fetchInstr] at h
  split at h
  · cases h
  · rename_i w hw
    split at h
    · cases h
    · cases h
    · rename_i r hr
      split at h
      · rename_i ha; cases h; exact ⟨w, r, hw, hr, ha, rfl⟩
      · cases h

/-- The cases of a step that gives a next state (R202, R226). -/
theorem step_next {s t : State} (h : step s = .next t) :
    (s.final = true ∧ t = s) ∨ (s.final = false ∧ ∃ i, fetchInstr s = .next i ∧ exec i s = .next t) := by
  simp only [step] at h
  split at h
  · rename_i hf; cases h; exact .inl ⟨hf, rfl⟩
  · rename_i hf
    split at h
    · rename_i i hi; exact .inr ⟨by simpa using hf, i, hi, h⟩
    · cases h
    · cases h

end Sys2Proof.Machine
end

