-- ==== Sys2Proof/Laws/PerInstr.lean ====
section
/-! SUPPORT. The family `ParseBits`, one lemma per constructor: whatever word the encoder gives an instruction, its Parse
field is `11`, that is, a packet of one instruction (30_encoding.md R72). -/

namespace Sys2Proof.Laws.ParseBits

open Sys2Proof

/-- Every word the encoder gives `i` has Parse = `11` (R72). -/
def Statement (i : Instr) : Prop := ∀ w, encode i = some w → fieldParse w = 3#2

/-- Parse of an or of words. -/
theorem fieldParse_or (a b : Word) : fieldParse (a ||| b) = fieldParse a ||| fieldParse b :=
  BitVec.extractLsb'_or

theorem fieldParse_place {k : Nat} (x : BitVec k) (l : Nat) (h : l + k ≤ 14 ∨ 16 ≤ l) :
    fieldParse (x.setWidth 32 <<< l) = 0#2 := by
  apply BitVec.eq_of_getLsbD_eq
  intro i hi
  simp only [fieldParse, BitVec.getLsbD_extractLsb', BitVec.getLsbD_shiftLeft, BitVec.getLsbD_setWidth, BitVec.getLsbD_zero]
  rcases h with h | h
  · rw [BitVec.getLsbD_of_ge x (14 + i - l) (by omega)]; simp
  · have : 14 + i < l := by omega
    simp [this]

theorem fieldParse_bitsR9 (off : Int) : fieldParse (bitsR9 off) = 0#2 := by
  simp only [bitsR9, placeR9, fieldParse_or]
  rw [fieldParse_place _ 20 (by omega), fieldParse_place _ 1 (by omega)]; rfl

theorem fieldParse_bitsR13 (off : Int) : fieldParse (bitsR13 off) = 0#2 := by
  simp only [bitsR13, placeR13, fieldParse_or]
  rw [fieldParse_place _ 21 (by omega), fieldParse_place _ 13 (by omega), fieldParse_place _ 1 (by omega)]; rfl

theorem fieldParse_bitsS16 (s16 : Int) : fieldParse (bitsS16 s16) = 0#2 := by
  simp only [bitsS16, placeS16, fieldParse_or]
  rw [fieldParse_place _ 21 (by omega), fieldParse_place _ 5 (by omega)]; rfl

theorem fieldParse_bitsS4 (r : GReg) : fieldParse (bitsS4 r) = 0#2 := fieldParse_place _ 16 (by omega)
theorem fieldParse_bitsT4 (r : GReg) : fieldParse (bitsT4 r) = 0#2 := fieldParse_place _ 8 (by omega)
theorem fieldParse_bitsU5 (u : Nat) : fieldParse (bitsU5 u) = 0#2 := fieldParse_place _ 8 (by omega)
theorem fieldParse_bitsRs (r : GReg) : fieldParse (bitsRs r) = 0#2 := fieldParse_place _ 16 (by omega)
theorem fieldParse_bitsRt (r : GReg) : fieldParse (bitsRt r) = 0#2 := fieldParse_place _ 8 (by omega)
theorem fieldParse_bitsRd (r : GReg) : fieldParse (bitsRd r) = 0#2 := by
  have h := fieldParse_place (BitVec.ofNat 5 r.val) 0 (by omega)
  rwa [BitVec.shiftLeft_zero] at h

theorem n1 (m : Word) (rs : GReg) (off : Int) (hm : fieldParse m = 0#2) (w : Word) (h : some (wordN1 m rs off) = some w) :
    fieldParse w = 3#2 := by
  cases h; simp only [wordN1, fieldParse_or, hm, fieldParse_bitsS4, fieldParse_bitsR9]; rfl

theorem u5 (m : Word) (rs : GReg) (u : Nat) (off : Int) (hm : fieldParse m = 0#2) (w : Word)
    (h : some (wordU5 m rs u off) = some w) : fieldParse w = 3#2 := by
  cases h; simp only [wordU5, fieldParse_or, hm, fieldParse_bitsS4, fieldParse_bitsU5, fieldParse_bitsR9]; rfl

theorem rr (m : Word) (rs rt : GReg) (off : Int) (hm : fieldParse m = 0#2) (w : Word)
    (h : some (wordRR m rs rt off) = some w) : fieldParse w = 3#2 := by
  cases h; simp only [wordRR, fieldParse_or, hm, fieldParse_bitsS4, fieldParse_bitsT4, fieldParse_bitsR9]; rfl

theorem jr (m : Word) (rs : GReg) (off : Int) (hm : fieldParse m = 0#2) (w : Word) (h : some (wordJR m rs off) = some w) :
    fieldParse w = 3#2 := by
  cases h; simp only [wordJR, fieldParse_or, hm, fieldParse_bitsRs, fieldParse_bitsR13]; rfl

theorem addi (m : Word) (rd rs : GReg) (s16 : Int) (hm : fieldParse m = 0#2) (w : Word)
    (h : some (wordAddi m rd rs s16) = some w) : fieldParse w = 3#2 := by
  cases h; simp only [wordAddi, fieldParse_or, hm, fieldParse_bitsRs, fieldParse_bitsS16, fieldParse_bitsRd]; rfl

theorem rrr (m : Word) (rd rs rt : GReg) (hm : fieldParse m = 0#2) (w : Word) (h : some (wordRrr m rd rs rt) = some w) :
    fieldParse w = 3#2 := by
  cases h; simp only [wordRrr, fieldParse_or, hm, fieldParse_bitsRs, fieldParse_bitsRt, fieldParse_bitsRd]; rfl

theorem p0CmpEqN1NewNt (rs : GReg) (off : Int) : Statement (.p0CmpEqN1NewNt rs off) := n1 _ rs off rfl
theorem p0CmpEqN1NewT (rs : GReg) (off : Int) : Statement (.p0CmpEqN1NewT rs off) := n1 _ rs off rfl
theorem p0CmpEqN1NotNewNt (rs : GReg) (off : Int) : Statement (.p0CmpEqN1NotNewNt rs off) := n1 _ rs off rfl
theorem p0CmpEqN1NotNewT (rs : GReg) (off : Int) : Statement (.p0CmpEqN1NotNewT rs off) := n1 _ rs off rfl
theorem p1CmpEqN1NewNt (rs : GReg) (off : Int) : Statement (.p1CmpEqN1NewNt rs off) := n1 _ rs off rfl
theorem p1CmpEqN1NewT (rs : GReg) (off : Int) : Statement (.p1CmpEqN1NewT rs off) := n1 _ rs off rfl
theorem p1CmpEqN1NotNewNt (rs : GReg) (off : Int) : Statement (.p1CmpEqN1NotNewNt rs off) := n1 _ rs off rfl
theorem p1CmpEqN1NotNewT (rs : GReg) (off : Int) : Statement (.p1CmpEqN1NotNewT rs off) := n1 _ rs off rfl
theorem p0CmpEqU5NewNt (rs : GReg) (u : Nat) (off : Int) : Statement (.p0CmpEqU5NewNt rs u off) := u5 _ rs u off rfl
theorem p0CmpEqU5NewT (rs : GReg) (u : Nat) (off : Int) : Statement (.p0CmpEqU5NewT rs u off) := u5 _ rs u off rfl
theorem p0CmpEqU5NotNewNt (rs : GReg) (u : Nat) (off : Int) : Statement (.p0CmpEqU5NotNewNt rs u off) := u5 _ rs u off rfl
theorem p0CmpEqU5NotNewT (rs : GReg) (u : Nat) (off : Int) : Statement (.p0CmpEqU5NotNewT rs u off) := u5 _ rs u off rfl
theorem p1CmpEqU5NewNt (rs : GReg) (u : Nat) (off : Int) : Statement (.p1CmpEqU5NewNt rs u off) := u5 _ rs u off rfl
theorem p1CmpEqU5NewT (rs : GReg) (u : Nat) (off : Int) : Statement (.p1CmpEqU5NewT rs u off) := u5 _ rs u off rfl
theorem p1CmpEqU5NotNewNt (rs : GReg) (u : Nat) (off : Int) : Statement (.p1CmpEqU5NotNewNt rs u off) := u5 _ rs u off rfl
theorem p1CmpEqU5NotNewT (rs : GReg) (u : Nat) (off : Int) : Statement (.p1CmpEqU5NotNewT rs u off) := u5 _ rs u off rfl
theorem p0CmpEqRRNewNt (rs : GReg) (rt : GReg) (off : Int) : Statement (.p0CmpEqRRNewNt rs rt off) := rr _ rs rt off rfl
theorem p0CmpEqRRNewT (rs : GReg) (rt : GReg) (off : Int) : Statement (.p0CmpEqRRNewT rs rt off) := rr _ rs rt off rfl
theorem p0CmpEqRRNotNewNt (rs : GReg) (rt : GReg) (off : Int) : Statement (.p0CmpEqRRNotNewNt rs rt off) := rr _ rs rt off rfl
theorem p0CmpEqRRNotNewT (rs : GReg) (rt : GReg) (off : Int) : Statement (.p0CmpEqRRNotNewT rs rt off) := rr _ rs rt off rfl
theorem p1CmpEqRRNewNt (rs : GReg) (rt : GReg) (off : Int) : Statement (.p1CmpEqRRNewNt rs rt off) := rr _ rs rt off rfl
theorem p1CmpEqRRNewT (rs : GReg) (rt : GReg) (off : Int) : Statement (.p1CmpEqRRNewT rs rt off) := rr _ rs rt off rfl
theorem p1CmpEqRRNotNewNt (rs : GReg) (rt : GReg) (off : Int) : Statement (.p1CmpEqRRNotNewNt rs rt off) := rr _ rs rt off rfl
theorem p1CmpEqRRNotNewT (rs : GReg) (rt : GReg) (off : Int) : Statement (.p1CmpEqRRNotNewT rs rt off) := rr _ rs rt off rfl
theorem p0CmpGtN1NewNt (rs : GReg) (off : Int) : Statement (.p0CmpGtN1NewNt rs off) := n1 _ rs off rfl
theorem p0CmpGtN1NewT (rs : GReg) (off : Int) : Statement (.p0CmpGtN1NewT rs off) := n1 _ rs off rfl
theorem p0CmpGtN1NotNewNt (rs : GReg) (off : Int) : Statement (.p0CmpGtN1NotNewNt rs off) := n1 _ rs off rfl
theorem p0CmpGtN1NotNewT (rs : GReg) (off : Int) : Statement (.p0CmpGtN1NotNewT rs off) := n1 _ rs off rfl
theorem p1CmpGtN1NewNt (rs : GReg) (off : Int) : Statement (.p1CmpGtN1NewNt rs off) := n1 _ rs off rfl
theorem p1CmpGtN1NewT (rs : GReg) (off : Int) : Statement (.p1CmpGtN1NewT rs off) := n1 _ rs off rfl
theorem p1CmpGtN1NotNewNt (rs : GReg) (off : Int) : Statement (.p1CmpGtN1NotNewNt rs off) := n1 _ rs off rfl
theorem p1CmpGtN1NotNewT (rs : GReg) (off : Int) : Statement (.p1CmpGtN1NotNewT rs off) := n1 _ rs off rfl
theorem p0CmpGtU5NewNt (rs : GReg) (u : Nat) (off : Int) : Statement (.p0CmpGtU5NewNt rs u off) := u5 _ rs u off rfl
theorem p0CmpGtU5NewT (rs : GReg) (u : Nat) (off : Int) : Statement (.p0CmpGtU5NewT rs u off) := u5 _ rs u off rfl
theorem p0CmpGtU5NotNewNt (rs : GReg) (u : Nat) (off : Int) : Statement (.p0CmpGtU5NotNewNt rs u off) := u5 _ rs u off rfl
theorem p0CmpGtU5NotNewT (rs : GReg) (u : Nat) (off : Int) : Statement (.p0CmpGtU5NotNewT rs u off) := u5 _ rs u off rfl
theorem p1CmpGtU5NewNt (rs : GReg) (u : Nat) (off : Int) : Statement (.p1CmpGtU5NewNt rs u off) := u5 _ rs u off rfl
theorem p1CmpGtU5NewT (rs : GReg) (u : Nat) (off : Int) : Statement (.p1CmpGtU5NewT rs u off) := u5 _ rs u off rfl
theorem p1CmpGtU5NotNewNt (rs : GReg) (u : Nat) (off : Int) : Statement (.p1CmpGtU5NotNewNt rs u off) := u5 _ rs u off rfl
theorem p1CmpGtU5NotNewT (rs : GReg) (u : Nat) (off : Int) : Statement (.p1CmpGtU5NotNewT rs u off) := u5 _ rs u off rfl
theorem p0CmpGtRRNewNt (rs : GReg) (rt : GReg) (off : Int) : Statement (.p0CmpGtRRNewNt rs rt off) := rr _ rs rt off rfl
theorem p0CmpGtRRNewT (rs : GReg) (rt : GReg) (off : Int) : Statement (.p0CmpGtRRNewT rs rt off) := rr _ rs rt off rfl
theorem p0CmpGtRRNotNewNt (rs : GReg) (rt : GReg) (off : Int) : Statement (.p0CmpGtRRNotNewNt rs rt off) := rr _ rs rt off rfl
theorem p0CmpGtRRNotNewT (rs : GReg) (rt : GReg) (off : Int) : Statement (.p0CmpGtRRNotNewT rs rt off) := rr _ rs rt off rfl
theorem p1CmpGtRRNewNt (rs : GReg) (rt : GReg) (off : Int) : Statement (.p1CmpGtRRNewNt rs rt off) := rr _ rs rt off rfl
theorem p1CmpGtRRNewT (rs : GReg) (rt : GReg) (off : Int) : Statement (.p1CmpGtRRNewT rs rt off) := rr _ rs rt off rfl
theorem p1CmpGtRRNotNewNt (rs : GReg) (rt : GReg) (off : Int) : Statement (.p1CmpGtRRNotNewNt rs rt off) := rr _ rs rt off rfl
theorem p1CmpGtRRNotNewT (rs : GReg) (rt : GReg) (off : Int) : Statement (.p1CmpGtRRNotNewT rs rt off) := rr _ rs rt off rfl
theorem p0CmpGtuU5NewNt (rs : GReg) (u : Nat) (off : Int) : Statement (.p0CmpGtuU5NewNt rs u off) := u5 _ rs u off rfl
theorem p0CmpGtuU5NewT (rs : GReg) (u : Nat) (off : Int) : Statement (.p0CmpGtuU5NewT rs u off) := u5 _ rs u off rfl
theorem p0CmpGtuU5NotNewNt (rs : GReg) (u : Nat) (off : Int) : Statement (.p0CmpGtuU5NotNewNt rs u off) := u5 _ rs u off rfl
theorem p0CmpGtuU5NotNewT (rs : GReg) (u : Nat) (off : Int) : Statement (.p0CmpGtuU5NotNewT rs u off) := u5 _ rs u off rfl
theorem p1CmpGtuU5NewNt (rs : GReg) (u : Nat) (off : Int) : Statement (.p1CmpGtuU5NewNt rs u off) := u5 _ rs u off rfl
theorem p1CmpGtuU5NewT (rs : GReg) (u : Nat) (off : Int) : Statement (.p1CmpGtuU5NewT rs u off) := u5 _ rs u off rfl
theorem p1CmpGtuU5NotNewNt (rs : GReg) (u : Nat) (off : Int) : Statement (.p1CmpGtuU5NotNewNt rs u off) := u5 _ rs u off rfl
theorem p1CmpGtuU5NotNewT (rs : GReg) (u : Nat) (off : Int) : Statement (.p1CmpGtuU5NotNewT rs u off) := u5 _ rs u off rfl
theorem p0CmpGtuRRNewNt (rs : GReg) (rt : GReg) (off : Int) : Statement (.p0CmpGtuRRNewNt rs rt off) := rr _ rs rt off rfl
theorem p0CmpGtuRRNewT (rs : GReg) (rt : GReg) (off : Int) : Statement (.p0CmpGtuRRNewT rs rt off) := rr _ rs rt off rfl
theorem p0CmpGtuRRNotNewNt (rs : GReg) (rt : GReg) (off : Int) : Statement (.p0CmpGtuRRNotNewNt rs rt off) := rr _ rs rt off rfl
theorem p0CmpGtuRRNotNewT (rs : GReg) (rt : GReg) (off : Int) : Statement (.p0CmpGtuRRNotNewT rs rt off) := rr _ rs rt off rfl
theorem p1CmpGtuRRNewNt (rs : GReg) (rt : GReg) (off : Int) : Statement (.p1CmpGtuRRNewNt rs rt off) := rr _ rs rt off rfl
theorem p1CmpGtuRRNewT (rs : GReg) (rt : GReg) (off : Int) : Statement (.p1CmpGtuRRNewT rs rt off) := rr _ rs rt off rfl
theorem p1CmpGtuRRNotNewNt (rs : GReg) (rt : GReg) (off : Int) : Statement (.p1CmpGtuRRNotNewNt rs rt off) := rr _ rs rt off rfl
theorem p1CmpGtuRRNotNewT (rs : GReg) (rt : GReg) (off : Int) : Statement (.p1CmpGtuRRNotNewT rs rt off) := rr _ rs rt off rfl
theorem p0TstbitNewNt (rs : GReg) (off : Int) : Statement (.p0TstbitNewNt rs off) := n1 _ rs off rfl
theorem p0TstbitNewT (rs : GReg) (off : Int) : Statement (.p0TstbitNewT rs off) := n1 _ rs off rfl
theorem p0TstbitNotNewNt (rs : GReg) (off : Int) : Statement (.p0TstbitNotNewNt rs off) := n1 _ rs off rfl
theorem p0TstbitNotNewT (rs : GReg) (off : Int) : Statement (.p0TstbitNotNewT rs off) := n1 _ rs off rfl
theorem p1TstbitNewNt (rs : GReg) (off : Int) : Statement (.p1TstbitNewNt rs off) := n1 _ rs off rfl
theorem p1TstbitNewT (rs : GReg) (off : Int) : Statement (.p1TstbitNewT rs off) := n1 _ rs off rfl
theorem p1TstbitNotNewNt (rs : GReg) (off : Int) : Statement (.p1TstbitNotNewNt rs off) := n1 _ rs off rfl
theorem p1TstbitNotNewT (rs : GReg) (off : Int) : Statement (.p1TstbitNotNewT rs off) := n1 _ rs off rfl
theorem jumpNeNt (rs : GReg) (off : Int) : Statement (.jumpNeNt rs off) := jr _ rs off rfl
theorem jumpNeT (rs : GReg) (off : Int) : Statement (.jumpNeT rs off) := jr _ rs off rfl
theorem jumpLeNt (rs : GReg) (off : Int) : Statement (.jumpLeNt rs off) := jr _ rs off rfl
theorem jumpLeT (rs : GReg) (off : Int) : Statement (.jumpLeT rs off) := jr _ rs off rfl
theorem jumpEqNt (rs : GReg) (off : Int) : Statement (.jumpEqNt rs off) := jr _ rs off rfl
theorem jumpEqT (rs : GReg) (off : Int) : Statement (.jumpEqT rs off) := jr _ rs off rfl
theorem jumpGeNt (rs : GReg) (off : Int) : Statement (.jumpGeNt rs off) := jr _ rs off rfl
theorem jumpGeT (rs : GReg) (off : Int) : Statement (.jumpGeT rs off) := jr _ rs off rfl
theorem addImm (rd rs : GReg) (s16 : Int) : Statement (.addImm rd rs s16) := addi _ rd rs s16 rfl
theorem addReg (rd rs rt : GReg) : Statement (.addReg rd rs rt) := rrr _ rd rs rt rfl
theorem addRegSat (rd rs rt : GReg) : Statement (.addRegSat rd rs rt) := rrr _ rd rs rt rfl
theorem vasrBHSat (vd vu vv : VReg) (rt : GReg) : Statement (.vasrBHSat vd vu vv rt) := fun _ h => nomatch h
theorem vasrBHRndSat (vd vu vv : VReg) (rt : GReg) : Statement (.vasrBHRndSat vd vu vv rt) := fun _ h => nomatch h
theorem vasrHWRndSat (vd vu vv : VReg) (rt : GReg) : Statement (.vasrHWRndSat vd vu vv rt) := fun _ h => nomatch h
theorem vasrHW (vd vu vv : VReg) (rt : GReg) : Statement (.vasrHW vd vu vv rt) := fun _ h => nomatch h
theorem vasrHWSat (vd vu vv : VReg) (rt : GReg) : Statement (.vasrHWSat vd vu vv rt) := fun _ h => nomatch h
theorem vasrUbHSat (vd vu vv : VReg) (rt : GReg) : Statement (.vasrUbHSat vd vu vv rt) := fun _ h => nomatch h
theorem vasrUbHRndSat (vd vu vv : VReg) (rt : GReg) : Statement (.vasrUbHRndSat vd vu vv rt) := fun _ h => nomatch h
theorem vasrUbUhSat (vd vu vv : VReg) (rt : GReg) : Statement (.vasrUbUhSat vd vu vv rt) := fun _ h => nomatch h
theorem vasrUbUhRndSat (vd vu vv : VReg) (rt : GReg) : Statement (.vasrUbUhRndSat vd vu vv rt) := fun _ h => nomatch h
theorem vasrUhUwSat (vd vu vv : VReg) (rt : GReg) : Statement (.vasrUhUwSat vd vu vv rt) := fun _ h => nomatch h
theorem vasrUhUwRndSat (vd vu vv : VReg) (rt : GReg) : Statement (.vasrUhUwRndSat vd vu vv rt) := fun _ h => nomatch h
theorem vasrUhWSat (vd vu vv : VReg) (rt : GReg) : Statement (.vasrUhWSat vd vu vv rt) := fun _ h => nomatch h
theorem vasrUhWRndSat (vd vu vv : VReg) (rt : GReg) : Statement (.vasrUhWRndSat vd vu vv rt) := fun _ h => nomatch h

end Sys2Proof.Laws.ParseBits
end

