-- ==== Sys2Proof/Tests/Slice0.lean ====
section
/-! SUPPORT. Tests of slice 0. Every expected value comes from the spec: words are written out bit by bit from the rows of
30_encoding.md section 2 and 3, and the execution tests are the vectors of 95_test_vectors.md, whose ids (V-…) stand in
the docstrings. The theorems `test_witness_…` show that the hypotheses of a statement can be met. -/

namespace Sys2Proof.Tests

open Sys2Proof Sys2Proof.Machine

/-! ## Well-formedness: each check refuses an ill-formed term and admits its boundary values -/

/-- `Rs` of a compare-and-jump is R0-R7 or R16-R23 (R100): R8, R15, R24 and R31 are refused. -/
theorem test_wf_rs :
    (Instr.p0CmpEqN1NewNt 8 0).wf = false ∧ (Instr.p0TstbitNewT 15 0).wf = false ∧
    (Instr.p1CmpGtU5NewT 24 0 0).wf = false ∧ (Instr.p0CmpEqRRNewNt 31 0 0).wf = false ∧
    (Instr.p0CmpEqN1NewNt 7 0).wf = true ∧ (Instr.p0CmpEqN1NewNt 16 0).wf = true ∧ (Instr.p0CmpEqN1NewNt 23 0).wf = true := by
  decide

/-- `Rt` of a compare-and-jump has the same range (R100). -/
theorem test_wf_rt :
    (Instr.p0CmpGtRRNewNt 0 8 0).wf = false ∧ (Instr.p1CmpGtuRRNewT 0 24 0).wf = false ∧ (Instr.p0CmpEqRRNewNt 0 23 0).wf = true := by
  decide

/-- `#U5` is 0..31 (R80, R100). -/
theorem test_wf_u5 :
    (Instr.p0CmpEqU5NewNt 0 32 0).wf = false ∧ (Instr.p0CmpGtuU5NewNt 0 40 0).wf = false ∧ (Instr.p0CmpGtU5NewNt 0 31 0).wf = true := by
  decide

/-- `#r9:2` is a multiple of 4 in -1024..+1020 (R9, R79): each part of the check refuses. -/
theorem test_wf_r9 :
    (Instr.p0CmpEqN1NewNt 0 2).wf = false ∧ (Instr.p0CmpEqU5NewNt 0 0 1024).wf = false ∧
    (Instr.p0CmpEqRRNewNt 0 0 (-1028)).wf = false ∧ (Instr.p0CmpEqN1NewNt 0 1020).wf = true ∧
    (Instr.p0CmpEqN1NewNt 0 (-1024)).wf = true := by
  decide

/-- `#r13:2` is a multiple of 4 in -16384..+16380 (R82, R140). -/
theorem test_wf_r13 :
    (Instr.jumpNeNt 8 6).wf = false ∧ (Instr.jumpLeT 8 16384).wf = false ∧ (Instr.jumpEqNt 8 (-16388)).wf = false ∧
    (Instr.jumpGeT 31 16380).wf = true ∧ (Instr.jumpGeNt 31 (-16384)).wf = true := by
  decide

/-- `#s16` is -32768..32767 (R191). -/
theorem test_wf_s16 :
    (Instr.addImm 0 0 32768).wf = false ∧ (Instr.addImm 0 0 (-32769)).wf = false ∧ (Instr.addImm 31 31 32767).wf = true ∧
    (Instr.addImm 0 0 (-32768)).wf = true := by
  decide

/-! ## Decoding: every encoded constructor, its word written bit by bit from the row's pattern -/

/-- The 8 rows of R103 (30_encoding.md R75, R76, R79, R80, R81). -/
theorem test_decode_cmpEqN1 :
    decode 0b00010001100000001100000000000100#32 = .ok (.p0CmpEqN1NewNt 0 8) ∧
    decode 0b00010001101101111110000011111110#32 = .ok (.p0CmpEqN1NewT 7 (-4)) ∧
    decode 0b00010001110110001100000011111110#32 = .ok (.p0CmpEqN1NotNewNt 16 1020) ∧
    decode 0b00010001111011111110000000000000#32 = .ok (.p0CmpEqN1NotNewT 23 (-1024)) ∧
    decode 0b00010011101001011100000000001100#32 = .ok (.p1CmpEqN1NewNt 5 (-1000)) ∧
    decode 0b00010011100010101110000010101010#32 = .ok (.p1CmpEqN1NewT 18 340) ∧
    decode 0b00010011111100101100000011111100#32 = .ok (.p1CmpEqN1NotNewNt 2 (-8)) ∧
    decode 0b00010011110111011110000001010110#32 = .ok (.p1CmpEqN1NotNewT 21 684) := by
  decide

/-- The 8 rows of R104 (30_encoding.md R75, R76, R79, R80, R81). -/
theorem test_decode_cmpEqU5 :
    decode 0b00010000000000001101111100000100#32 = .ok (.p0CmpEqU5NewNt 0 31 8) ∧
    decode 0b00010000001101111110000111111110#32 = .ok (.p0CmpEqU5NewT 7 1 (-4)) ∧
    decode 0b00010000010110001101000011111110#32 = .ok (.p0CmpEqU5NotNewNt 16 16 1020) ∧
    decode 0b00010000011011111110000000000000#32 = .ok (.p0CmpEqU5NotNewT 23 0 (-1024)) ∧
    decode 0b00010010001001011101010100001100#32 = .ok (.p1CmpEqU5NewNt 5 21 (-1000)) ∧
    decode 0b00010010000010101110101010101010#32 = .ok (.p1CmpEqU5NewT 18 10 340) ∧
    decode 0b00010010011100101100010011111100#32 = .ok (.p1CmpEqU5NotNewNt 2 4 (-8)) ∧
    decode 0b00010010010111011111111001010110#32 = .ok (.p1CmpEqU5NotNewT 21 30 684) := by
  decide

/-- The 8 rows of R105 (30_encoding.md R75, R76, R79, R80, R81). -/
theorem test_decode_cmpEqRR :
    decode 0b00010100000000001100111100000100#32 = .ok (.p0CmpEqRRNewNt 0 23 8) ∧
    decode 0b00010100001101111110100011111110#32 = .ok (.p0CmpEqRRNewT 7 16 (-4)) ∧
    decode 0b00010100010110001100011111111110#32 = .ok (.p0CmpEqRRNotNewNt 16 7 1020) ∧
    decode 0b00010100011011111110000000000000#32 = .ok (.p0CmpEqRRNotNewT 23 0 (-1024)) ∧
    decode 0b00010100001001011101101100001100#32 = .ok (.p1CmpEqRRNewNt 5 19 (-1000)) ∧
    decode 0b00010100000010101111010010101010#32 = .ok (.p1CmpEqRRNewT 18 4 340) ∧
    decode 0b00010100011100101101011011111100#32 = .ok (.p1CmpEqRRNotNewNt 2 6 (-8)) ∧
    decode 0b00010100010111011111100101010110#32 = .ok (.p1CmpEqRRNotNewT 21 17 684) := by
  decide

/-- The 8 rows of R106 (30_encoding.md R75, R76, R79, R80, R81). -/
theorem test_decode_cmpGtN1 :
    decode 0b00010001100000001100000100000100#32 = .ok (.p0CmpGtN1NewNt 0 8) ∧
    decode 0b00010001101101111110000111111110#32 = .ok (.p0CmpGtN1NewT 7 (-4)) ∧
    decode 0b00010001110110001100000111111110#32 = .ok (.p0CmpGtN1NotNewNt 16 1020) ∧
    decode 0b00010001111011111110000100000000#32 = .ok (.p0CmpGtN1NotNewT 23 (-1024)) ∧
    decode 0b00010011101001011100000100001100#32 = .ok (.p1CmpGtN1NewNt 5 (-1000)) ∧
    decode 0b00010011100010101110000110101010#32 = .ok (.p1CmpGtN1NewT 18 340) ∧
    decode 0b00010011111100101100000111111100#32 = .ok (.p1CmpGtN1NotNewNt 2 (-8)) ∧
    decode 0b00010011110111011110000101010110#32 = .ok (.p1CmpGtN1NotNewT 21 684) := by
  decide

/-- The 8 rows of R107 (30_encoding.md R75, R76, R79, R80, R81). -/
theorem test_decode_cmpGtU5 :
    decode 0b00010000100000001101111100000100#32 = .ok (.p0CmpGtU5NewNt 0 31 8) ∧
    decode 0b00010000101101111110000111111110#32 = .ok (.p0CmpGtU5NewT 7 1 (-4)) ∧
    decode 0b00010000110110001101000011111110#32 = .ok (.p0CmpGtU5NotNewNt 16 16 1020) ∧
    decode 0b00010000111011111110000000000000#32 = .ok (.p0CmpGtU5NotNewT 23 0 (-1024)) ∧
    decode 0b00010010101001011101010100001100#32 = .ok (.p1CmpGtU5NewNt 5 21 (-1000)) ∧
    decode 0b00010010100010101110101010101010#32 = .ok (.p1CmpGtU5NewT 18 10 340) ∧
    decode 0b00010010111100101100010011111100#32 = .ok (.p1CmpGtU5NotNewNt 2 4 (-8)) ∧
    decode 0b00010010110111011111111001010110#32 = .ok (.p1CmpGtU5NotNewT 21 30 684) := by
  decide

/-- The 8 rows of R108 (30_encoding.md R75, R76, R79, R80, R81). -/
theorem test_decode_cmpGtRR :
    decode 0b00010100100000001100111100000100#32 = .ok (.p0CmpGtRRNewNt 0 23 8) ∧
    decode 0b00010100101101111110100011111110#32 = .ok (.p0CmpGtRRNewT 7 16 (-4)) ∧
    decode 0b00010100110110001100011111111110#32 = .ok (.p0CmpGtRRNotNewNt 16 7 1020) ∧
    decode 0b00010100111011111110000000000000#32 = .ok (.p0CmpGtRRNotNewT 23 0 (-1024)) ∧
    decode 0b00010100101001011101101100001100#32 = .ok (.p1CmpGtRRNewNt 5 19 (-1000)) ∧
    decode 0b00010100100010101111010010101010#32 = .ok (.p1CmpGtRRNewT 18 4 340) ∧
    decode 0b00010100111100101101011011111100#32 = .ok (.p1CmpGtRRNotNewNt 2 6 (-8)) ∧
    decode 0b00010100110111011111100101010110#32 = .ok (.p1CmpGtRRNotNewT 21 17 684) := by
  decide

/-- The 8 rows of R109 (30_encoding.md R75, R76, R79, R80, R81). -/
theorem test_decode_cmpGtuU5 :
    decode 0b00010001000000001101111100000100#32 = .ok (.p0CmpGtuU5NewNt 0 31 8) ∧
    decode 0b00010001001101111110000111111110#32 = .ok (.p0CmpGtuU5NewT 7 1 (-4)) ∧
    decode 0b00010001010110001101000011111110#32 = .ok (.p0CmpGtuU5NotNewNt 16 16 1020) ∧
    decode 0b00010001011011111110000000000000#32 = .ok (.p0CmpGtuU5NotNewT 23 0 (-1024)) ∧
    decode 0b00010011001001011101010100001100#32 = .ok (.p1CmpGtuU5NewNt 5 21 (-1000)) ∧
    decode 0b00010011000010101110101010101010#32 = .ok (.p1CmpGtuU5NewT 18 10 340) ∧
    decode 0b00010011011100101100010011111100#32 = .ok (.p1CmpGtuU5NotNewNt 2 4 (-8)) ∧
    decode 0b00010011010111011111111001010110#32 = .ok (.p1CmpGtuU5NotNewT 21 30 684) := by
  decide

/-- The 8 rows of R110 (30_encoding.md R75, R76, R79, R80, R81). -/
theorem test_decode_cmpGtuRR :
    decode 0b00010101000000001100111100000100#32 = .ok (.p0CmpGtuRRNewNt 0 23 8) ∧
    decode 0b00010101001101111110100011111110#32 = .ok (.p0CmpGtuRRNewT 7 16 (-4)) ∧
    decode 0b00010101010110001100011111111110#32 = .ok (.p0CmpGtuRRNotNewNt 16 7 1020) ∧
    decode 0b00010101011011111110000000000000#32 = .ok (.p0CmpGtuRRNotNewT 23 0 (-1024)) ∧
    decode 0b00010101001001011101101100001100#32 = .ok (.p1CmpGtuRRNewNt 5 19 (-1000)) ∧
    decode 0b00010101000010101111010010101010#32 = .ok (.p1CmpGtuRRNewT 18 4 340) ∧
    decode 0b00010101011100101101011011111100#32 = .ok (.p1CmpGtuRRNotNewNt 2 6 (-8)) ∧
    decode 0b00010101010111011111100101010110#32 = .ok (.p1CmpGtuRRNotNewT 21 17 684) := by
  decide

/-- The 8 rows of R111 (30_encoding.md R75, R76, R79, R80, R81). -/
theorem test_decode_tstbit :
    decode 0b00010001100000001100001100000100#32 = .ok (.p0TstbitNewNt 0 8) ∧
    decode 0b00010001101101111110001111111110#32 = .ok (.p0TstbitNewT 7 (-4)) ∧
    decode 0b00010001110110001100001111111110#32 = .ok (.p0TstbitNotNewNt 16 1020) ∧
    decode 0b00010001111011111110001100000000#32 = .ok (.p0TstbitNotNewT 23 (-1024)) ∧
    decode 0b00010011101001011100001100001100#32 = .ok (.p1TstbitNewNt 5 (-1000)) ∧
    decode 0b00010011100010101110001110101010#32 = .ok (.p1TstbitNewT 18 340) ∧
    decode 0b00010011111100101100001111111100#32 = .ok (.p1TstbitNotNewNt 2 (-8)) ∧
    decode 0b00010011110111011110001101010110#32 = .ok (.p1TstbitNotNewT 21 684) := by
  decide

/-- The 8 rows of R142-R149 (30_encoding.md R82). -/
theorem test_decode_jumpOnRegister :
    decode 0b01100001000000001100000000000100#32 = .ok (.jumpNeNt 0 8) ∧
    decode 0b01100001001111111111111111111100#32 = .ok (.jumpNeT 31 (-8)) ∧
    decode 0b01100001110001011110111111111110#32 = .ok (.jumpLeNt 5 16380) ∧
    decode 0b01100001111110101101000000000000#32 = .ok (.jumpLeT 26 (-16384)) ∧
    decode 0b01100001101010011110111111111110#32 = .ok (.jumpEqNt 9 (-4)) ∧
    decode 0b01100001100101101101000000100000#32 = .ok (.jumpEqT 22 64) ∧
    decode 0b01100001011000101100101010101010#32 = .ok (.jumpGeNt 2 (-10924)) ∧
    decode 0b01100001010100001111010101010100#32 = .ok (.jumpGeT 16 10920) := by
  decide

/-- The rows of R191, R192, R193 (30_encoding.md R83). -/
theorem test_decode_add :
    decode 0b10111000000001001100000000000011#32 = .ok (.addImm 3 4 (-32768)) ∧
    decode 0b10110111111000101111111111100001#32 = .ok (.addImm 1 2 32767) ∧
    decode 0b10111111111000001111111111111111#32 = .ok (.addImm 31 0 (-1)) ∧
    decode 0b10110101010010101110101010110101#32 = .ok (.addImm 21 10 21845) ∧
    decode 0b11110011000000101100001100000001#32 = .ok (.addReg 1 2 3) ∧
    decode 0b11110011000100001100101000011111#32 = .ok (.addReg 31 16 10) ∧
    decode 0b11110110010000101100001100000001#32 = .ok (.addRegSat 1 2 3) ∧
    decode 0b11110110010100001100101000011111#32 = .ok (.addRegSat 31 16 10) := by
  decide

/-- The encoder writes the words of V-E1 to V-E8. -/
theorem test_encode :
    encode (.p0CmpEqN1NewNt 2 8) = some 0x1182C004#32 ∧ encode (.p0CmpGtU5NotNewT 17 31 (-1024)) = some 0x10E9FF00#32 ∧
    encode (.p0TstbitNewT 23 1020) = some 0x119FE3FE#32 ∧ encode (.p0TstbitNotNewNt 0 (-4)) = some 0x11F0C3FE#32 ∧
    encode (.jumpGeNt 31 16380) = some 0x615FEFFE#32 ∧ encode (.jumpLeNt 0 (-16384)) = some 0x61E0C000#32 ∧
    encode (.addImm 3 4 (-32768)) = some 0xB804C003#32 ∧ encode (.addImm 1 2 32767) = some 0xB7E2FFE1#32 ∧
    encode (.vasrHW 0 1 2 3) = none := by
  decide

/-- V-E9: `-` bits set to 1 are ignored. -/
theorem test_decode_dashBits : decode 0x1182DC05#32 = .ok (.p0CmpEqN1NewNt 2 8) := by decide

/-- V-X2 to V-X5 at the decoder: Parse `01` and `00`, the unassigned bits 9:8 = `10`, ICLASS `0000`. -/
theorem test_decode_refuses :
    decode 0x11824004#32 = .error (.parseNotSingle 0x11824004#32) ∧ decode 0#32 = .error (.parseNotSingle 0#32) ∧
    decode 0x1182C204#32 = .error (.noSuchEncoding 0x1182C204#32) ∧ decode 0x0000C000#32 = .error (.noSuchEncoding 0x0000C000#32) := by
  decide

/-- The host's entry reads the same words; it answers none where the decoder refuses. -/
theorem test_decodeTableWord :
    decodeTableWord 32 0x1182C004 = some (.p0CmpEqN1NewNt 2 8) ∧ decodeTableWord 32 0x11824004 = none := by
  decide

/-! ## Execution: one step each -/

/-- The state of one step: the word at `pc`, the switch on, the registers given, every predicate 0x5A, OVF as given. -/
def stateAt (pc w : Word) (ovf : Bool) (rs : List (GReg × Word)) : State :=
  Launch.state { Launch.default with
    entryPc := pc
    text := [(pc, w)]
    vlenWords := 1
    admitUnsourced := true
    launchR := rs
    launchP := [(0, 0x5A#8), (1, 0x5A#8), (2, 0x5A#8), (3, 0x5A#8)]
    launchOvf := some ovf }

/-- The state a step answers, if it answers one. -/
def next? (o : Host.Outcome State Fault Refusal) : Option State :=
  match o with
  | .next t => some t
  | _ => none

/-- The predicates and `pc` after the step, provided that nothing else has changed. -/
def predAndPc (s : State) : Option (List Byte × Word) :=
  match next? (step s) with
  | some t => if t = { s with p := t.p, pc := t.pc } then some (t.p.toList, t.pc) else none
  | none => none

/-- `pc` after the step, provided that nothing else has changed. -/
def onlyPc (s : State) : Option Word :=
  match next? (step s) with
  | some t => if t = { s with pc := t.pc } then some t.pc else none
  | none => none

/-- Register `rd`, OVF and `pc` after the step, provided that nothing else has changed. -/
def addResult (rd : GReg) (s : State) : Option (Word × Bool × Word) :=
  match next? (step s) with
  | some t =>
    if t = { s with r := s.r.set rd (t.readR rd), ovf := t.ovf, pc := t.pc } then some (t.readR rd, t.ovf, t.pc) else none
  | none => none

/-- V-C1, V-C2, V-C3, V-C4, V-C5 (R103). -/
theorem test_exec_cmpEqN1 :
    predAndPc (stateAt 0x00002000#32 0x1182C004#32 false [(2, 0xFFFFFFFF#32)]) = some ([0xFF#8, 0x5A#8, 0x5A#8, 0x5A#8], 0x00002008#32) ∧
    predAndPc (stateAt 0x00002000#32 0x1182C004#32 false [(2, 0x000000FF#32)]) = some ([0x00#8, 0x5A#8, 0x5A#8, 0x5A#8], 0x00002004#32) ∧
    predAndPc (stateAt 0x00002000#32 0x11C2E004#32 false [(2, 0xFFFFFFFF#32)]) = some ([0xFF#8, 0x5A#8, 0x5A#8, 0x5A#8], 0x00002004#32) ∧
    predAndPc (stateAt 0x00002000#32 0x11E2E000#32 false [(2, 0x7FFFFFFF#32)]) = some ([0x00#8, 0x5A#8, 0x5A#8, 0x5A#8], 0x00001C00#32) ∧
    predAndPc (stateAt 0x00002000#32 0x1398E0FE#32 false [(16, 0xFFFFFFFF#32)]) = some ([0x5A#8, 0xFF#8, 0x5A#8, 0x5A#8], 0x000023FC#32) := by
  decide

/-- V-C6, V-C7, V-C8, V-C9 (R104). -/
theorem test_exec_cmpEqU5 :
    predAndPc (stateAt 0x00002000#32 0x1000C008#32 false [(0, 0x00000000#32)]) = some ([0xFF#8, 0x5A#8, 0x5A#8, 0x5A#8], 0x00002010#32) ∧
    predAndPc (stateAt 0x00002000#32 0x1007FF08#32 false [(7, 0x0000001F#32)]) = some ([0xFF#8, 0x5A#8, 0x5A#8, 0x5A#8], 0x00002010#32) ∧
    predAndPc (stateAt 0x00002000#32 0x1007FF08#32 false [(7, 0xFFFFFFFF#32)]) = some ([0x00#8, 0x5A#8, 0x5A#8, 0x5A#8], 0x00002004#32) ∧
    predAndPc (stateAt 0x00002000#32 0x107FC5FC#32 false [(23, 0x00000004#32)]) = some ([0x00#8, 0x5A#8, 0x5A#8, 0x5A#8], 0x00001FF8#32) := by
  decide

/-- V-C10, V-C11, V-C12 (R105). -/
theorem test_exec_cmpEqRR :
    predAndPc (stateAt 0x00002000#32 0x1401D906#32 false [(1, 0x80000000#32), (17, 0x80000000#32)]) = some ([0x5A#8, 0xFF#8, 0x5A#8, 0x5A#8], 0x0000200C#32) ∧
    predAndPc (stateAt 0x00002000#32 0x1441E106#32 false [(1, 0x12345678#32)]) = some ([0xFF#8, 0x5A#8, 0x5A#8, 0x5A#8], 0x00002004#32) ∧
    predAndPc (stateAt 0x00002000#32 0x1403E406#32 false [(3, 0x00000001#32), (4, 0xFFFFFFFF#32)]) = some ([0x00#8, 0x5A#8, 0x5A#8, 0x5A#8], 0x00002004#32) := by
  decide

/-- V-C13, V-C14, V-C15, V-C16 (R106). -/
theorem test_exec_cmpGtN1 :
    predAndPc (stateAt 0x00002000#32 0x1185C120#32 false [(5, 0x00000000#32)]) = some ([0xFF#8, 0x5A#8, 0x5A#8, 0x5A#8], 0x00002040#32) ∧
    predAndPc (stateAt 0x00002000#32 0x1185C120#32 false [(5, 0xFFFFFFFF#32)]) = some ([0x00#8, 0x5A#8, 0x5A#8, 0x5A#8], 0x00002004#32) ∧
    predAndPc (stateAt 0x00002000#32 0x1185E120#32 false [(5, 0x7FFFFFFF#32)]) = some ([0xFF#8, 0x5A#8, 0x5A#8, 0x5A#8], 0x00002040#32) ∧
    predAndPc (stateAt 0x00002000#32 0x11C5C120#32 false [(5, 0x80000000#32)]) = some ([0x00#8, 0x5A#8, 0x5A#8, 0x5A#8], 0x00002040#32) := by
  decide

/-- V-C17, V-C18, V-C19, V-C20 (R107). -/
theorem test_exec_cmpGtU5 :
    predAndPc (stateAt 0x00002000#32 0x10B6C9FA#32 false [(6, 0x0000000A#32)]) = some ([0xFF#8, 0x5A#8, 0x5A#8, 0x5A#8], 0x00001FF4#32) ∧
    predAndPc (stateAt 0x00002000#32 0x10B6C9FA#32 false [(6, 0x00000009#32)]) = some ([0x00#8, 0x5A#8, 0x5A#8, 0x5A#8], 0x00002004#32) ∧
    predAndPc (stateAt 0x00002000#32 0x10B6E0FA#32 false [(6, 0x80000000#32)]) = some ([0x00#8, 0x5A#8, 0x5A#8, 0x5A#8], 0x00002004#32) ∧
    predAndPc (stateAt 0x00002000#32 0x10E9FF00#32 false [(17, 0xFFFFFFFF#32)]) = some ([0x00#8, 0x5A#8, 0x5A#8, 0x5A#8], 0x00001C00#32) := by
  decide

/-- V-C21, V-C22, V-C23 (R108). -/
theorem test_exec_cmpGtRR :
    predAndPc (stateAt 0x00002000#32 0x1480C104#32 false [(0, 0x00000001#32), (1, 0xFFFFFFFF#32)]) = some ([0xFF#8, 0x5A#8, 0x5A#8, 0x5A#8], 0x00002008#32) ∧
    predAndPc (stateAt 0x00002000#32 0x1480C104#32 false [(0, 0x80000000#32), (1, 0x7FFFFFFF#32)]) = some ([0x00#8, 0x5A#8, 0x5A#8, 0x5A#8], 0x00002004#32) ∧
    predAndPc (stateAt 0x00002000#32 0x14CCFC04#32 false [(20, 0x00000007#32)]) = some ([0x5A#8, 0x00#8, 0x5A#8, 0x5A#8], 0x00002008#32) := by
  decide

/-- V-C24, V-C25, V-C26 (R109). -/
theorem test_exec_cmpGtuU5 :
    predAndPc (stateAt 0x00002000#32 0x1104DF0A#32 false [(4, 0xFFFFFFFF#32)]) = some ([0xFF#8, 0x5A#8, 0x5A#8, 0x5A#8], 0x00002014#32) ∧
    predAndPc (stateAt 0x00002000#32 0x1104DF0A#32 false [(4, 0x0000001F#32)]) = some ([0x00#8, 0x5A#8, 0x5A#8, 0x5A#8], 0x00002004#32) ∧
    predAndPc (stateAt 0x00002000#32 0x1344E00A#32 false [(4, 0x00000000#32)]) = some ([0x5A#8, 0x00#8, 0x5A#8, 0x5A#8], 0x00002014#32) := by
  decide

/-- V-C27, V-C28, V-C29 (R110). -/
theorem test_exec_cmpGtuRR :
    predAndPc (stateAt 0x00002000#32 0x1500C104#32 false [(0, 0xFFFFFFFF#32), (1, 0x00000001#32)]) = some ([0xFF#8, 0x5A#8, 0x5A#8, 0x5A#8], 0x00002008#32) ∧
    predAndPc (stateAt 0x00002000#32 0x1500C104#32 false [(0, 0x00000001#32), (1, 0xFFFFFFFF#32)]) = some ([0x00#8, 0x5A#8, 0x5A#8, 0x5A#8], 0x00002004#32) ∧
    predAndPc (stateAt 0x00002000#32 0x1573D8FE#32 false [(3, 0x00000005#32), (16, 0x00000005#32)]) = some ([0x5A#8, 0x00#8, 0x5A#8, 0x5A#8], 0x00001FFC#32) := by
  decide

/-- V-C30, V-C31, V-C32, V-C33 (R111). -/
theorem test_exec_tstbit :
    predAndPc (stateAt 0x00002000#32 0x119FE3FE#32 false [(23, 0x80000001#32)]) = some ([0xFF#8, 0x5A#8, 0x5A#8, 0x5A#8], 0x000023FC#32) ∧
    predAndPc (stateAt 0x00002000#32 0x119FE3FE#32 false [(23, 0xFFFFFFFE#32)]) = some ([0x00#8, 0x5A#8, 0x5A#8, 0x5A#8], 0x00002004#32) ∧
    predAndPc (stateAt 0x00002000#32 0x11F0C3FE#32 false [(0, 0x00000002#32)]) = some ([0x00#8, 0x5A#8, 0x5A#8, 0x5A#8], 0x00001FFC#32) ∧
    predAndPc (stateAt 0x00002000#32 0x1380C300#32 false [(0, 0x00000001#32)]) = some ([0x5A#8, 0xFF#8, 0x5A#8, 0x5A#8], 0x00002000#32) := by
  decide

/-- V-J1, V-J2, V-J3 (R142, R143). -/
theorem test_exec_jumpNe :
    onlyPc (stateAt 0x00008000#32 0x6125EFFC#32 false [(5, 0x00000001#32)]) = some 0x00007FF8#32 ∧
    onlyPc (stateAt 0x00008000#32 0x6125EFFC#32 false [(5, 0x00000000#32)]) = some 0x00008004#32 ∧
    onlyPc (stateAt 0x00008000#32 0x6125FFFC#32 false [(5, 0x80000000#32)]) = some 0x00007FF8#32 := by
  decide

/-- V-J4, V-J5, V-J6 (R144, R145). -/
theorem test_exec_jumpLe :
    onlyPc (stateAt 0x00008000#32 0x61E0C000#32 false [(0, 0x00000000#32)]) = some 0x00004000#32 ∧
    onlyPc (stateAt 0x00008000#32 0x61E0C000#32 false [(0, 0x80000000#32)]) = some 0x00004000#32 ∧
    onlyPc (stateAt 0x00008000#32 0x61C7D020#32 false [(7, 0x00000001#32)]) = some 0x00008004#32 := by
  decide

/-- V-J7, V-J8 (R146, R147). -/
theorem test_exec_jumpEq :
    onlyPc (stateAt 0x00008000#32 0x6189C004#32 false [(9, 0x00000000#32)]) = some 0x00008008#32 ∧
    onlyPc (stateAt 0x00008000#32 0x6189D004#32 false [(9, 0x80000000#32)]) = some 0x00008004#32 := by
  decide

/-- V-J9, V-J10, V-J11, V-J12 (R148, R149). -/
theorem test_exec_jumpGe :
    onlyPc (stateAt 0x00008000#32 0x615FEFFE#32 false [(31, 0x00000000#32)]) = some 0x0000BFFC#32 ∧
    onlyPc (stateAt 0x00008000#32 0x615FEFFE#32 false [(31, 0x7FFFFFFF#32)]) = some 0x0000BFFC#32 ∧
    onlyPc (stateAt 0x00008000#32 0x6162FFFE#32 false [(2, 0xFFFFFFFF#32)]) = some 0x00008004#32 ∧
    onlyPc (stateAt 0x00008000#32 0x6142D000#32 false [(2, 0x00000000#32)]) = some 0x00008000#32 := by
  decide

/-- V-A1, V-A2, V-A3, V-A4, V-A5, V-A6 (R191). -/
theorem test_exec_addImm :
    addResult 3 (stateAt 0x00001000#32 0xB804C003#32 false [(4, 0x00010000#32)]) = some (0x00008000#32, false, 0x00001004#32) ∧
    addResult 0 (stateAt 0x00001000#32 0xB000C020#32 false [(0, 0x7FFFFFFF#32)]) = some (0x80000000#32, false, 0x00001004#32) ∧
    addResult 0 (stateAt 0x00001000#32 0xB000C020#32 false [(0, 0xFFFFFFFF#32)]) = some (0x00000000#32, false, 0x00001004#32) ∧
    addResult 1 (stateAt 0x00001000#32 0xBFE2FFE1#32 false [(2, 0x00000000#32)]) = some (0xFFFFFFFF#32, false, 0x00001004#32) ∧
    addResult 1 (stateAt 0x00001000#32 0xB7E2FFE1#32 false [(2, 0x7FFF8001#32)]) = some (0x80000000#32, false, 0x00001004#32) ∧
    addResult 31 (stateAt 0x00001000#32 0xB01FC01F#32 true [(31, 0xDEADBEEF#32)]) = some (0xDEADBEEF#32, true, 0x00001004#32) := by
  decide

/-- V-A7, V-A8, V-A9, V-A10 (R192). -/
theorem test_exec_addReg :
    addResult 1 (stateAt 0x00001000#32 0xF302C301#32 false [(2, 0x00000005#32), (3, 0xFFFFFFFE#32)]) = some (0x00000003#32, false, 0x00001004#32) ∧
    addResult 1 (stateAt 0x00001000#32 0xF302C301#32 false [(2, 0x7FFFFFFF#32), (3, 0x00000001#32)]) = some (0x80000000#32, false, 0x00001004#32) ∧
    addResult 1 (stateAt 0x00001000#32 0xF302C301#32 false [(2, 0x80000000#32), (3, 0x80000000#32)]) = some (0x00000000#32, false, 0x00001004#32) ∧
    addResult 4 (stateAt 0x00001000#32 0xF304C404#32 false [(4, 0xC0000001#32)]) = some (0x80000002#32, false, 0x00001004#32) := by
  decide

/-- V-A11, V-A12, V-A13, V-A14, V-A15 (R193). -/
theorem test_exec_addRegSat :
    addResult 1 (stateAt 0x00001000#32 0xF642C301#32 false [(2, 0x60000000#32), (3, 0x60000000#32)]) = some (0x7FFFFFFF#32, true, 0x00001004#32) ∧
    addResult 1 (stateAt 0x00001000#32 0xF642C301#32 false [(2, 0x7FFFFFFF#32), (3, 0x00000001#32)]) = some (0x7FFFFFFF#32, true, 0x00001004#32) ∧
    addResult 1 (stateAt 0x00001000#32 0xF642C301#32 false [(2, 0x80000000#32), (3, 0xFFFFFFFF#32)]) = some (0x80000000#32, true, 0x00001004#32) ∧
    addResult 1 (stateAt 0x00001000#32 0xF642C301#32 false [(2, 0x80000000#32), (3, 0x80000000#32)]) = some (0x80000000#32, true, 0x00001004#32) ∧
    addResult 1 (stateAt 0x00001000#32 0xF642C301#32 false [(2, 0x7FFFFFFF#32), (3, 0x80000000#32)]) = some (0xFFFFFFFF#32, false, 0x00001004#32) := by
  decide

/-- V-A16, V-A17, V-A18, V-A19, V-A20 (R193). -/
theorem test_exec_addRegSat_more :
    addResult 1 (stateAt 0x00001000#32 0xF642C301#32 false [(2, 0x7FFFFFFF#32), (3, 0x00000000#32)]) = some (0x7FFFFFFF#32, false, 0x00001004#32) ∧
    addResult 1 (stateAt 0x00001000#32 0xF642C301#32 true [(2, 0x00000001#32), (3, 0x00000002#32)]) = some (0x00000003#32, true, 0x00001004#32) ∧
    addResult 5 (stateAt 0x00001000#32 0xF645C505#32 false [(5, 0x40000000#32)]) = some (0x7FFFFFFF#32, true, 0x00001004#32) ∧
    addResult 5 (stateAt 0x00001000#32 0xF645C505#32 false [(5, 0xC0000000#32)]) = some (0x80000000#32, false, 0x00001004#32) ∧
    addResult 5 (stateAt 0x00001000#32 0xF645C505#32 false [(5, 0xBFFFFFFF#32)]) = some (0x80000000#32, true, 0x00001004#32) := by
  decide

/-- The state of one `vasr`: `Vu` is V1, `Vv` is V2, `Rt` is R4; every vector register has as many words as `u`. -/
def vecState (u v : VecVal) (rt : Word) : State :=
  Launch.state { Launch.default with
    vlenWords := u.length
    launchR := [(4, rt)]
    launchV := [(1, u), (2, v)]
    launchOvf := some true }

/-- V3 after `i`, provided that `pc` has moved to the next word and nothing else has changed. -/
def vasrResult (i : Instr) (s : State) : Option VecVal :=
  match next? (exec i s) with
  | some t => if t = { s with v := s.v.set 3 (t.readV 3), pc := s.pc + 4#32 } then some (t.readV 3) else none
  | none => none

/-- One 16-bit element `x` in all four places of one word of `Vu` and `Vv`, and shift amount `n`. -/
def lane16Result (i : VReg → VReg → VReg → GReg → Instr) (x : Half) (n : Word) : Option VecVal :=
  vasrResult (i 3 1 2 4) (vecState [x ++ x] [x ++ x] n)

/-- One 32-bit element `x` in `Vu` and `Vv`, and shift amount `n`. -/
def lane32Result (i : VReg → VReg → VReg → GReg → Instr) (x : Word) (n : Word) : Option VecVal :=
  vasrResult (i 3 1 2 4) (vecState [x] [x] n)

/-- V-H1, V-H2, V-H5, V-H7, V-H10, V-H38, V-H39, V-H40, V-H41 (R165). -/
theorem test_exec_vasrBHSat :
    lane16Result .vasrBHSat 0x7FFF#16 0#32 = some [0x7F7F7F7F#32] ∧
    lane16Result .vasrBHSat 0x7FFF#16 7#32 = some [0x7F7F7F7F#32] ∧
    lane16Result .vasrBHSat 0x8000#16 7#32 = some [0x80808080#32] ∧
    lane16Result .vasrBHSat 0xFFFF#16 1#32 = some [0xFFFFFFFF#32] ∧
    lane16Result .vasrBHSat 0xFFFD#16 1#32 = some [0xFEFEFEFE#32] ∧
    lane16Result .vasrBHSat 0x007F#16 0#32 = some [0x7F7F7F7F#32] ∧
    lane16Result .vasrBHSat 0x0080#16 0#32 = some [0x7F7F7F7F#32] ∧
    lane16Result .vasrBHSat 0xFF80#16 0#32 = some [0x80808080#32] ∧
    lane16Result .vasrBHSat 0xFF7F#16 0#32 = some [0x80808080#32] := by
  decide

/-- V-H3, V-H4, V-H6, V-H8, V-H9, V-H11, V-H12 (R166). -/
theorem test_exec_vasrBHRndSat :
    lane16Result .vasrBHRndSat 0x7FFF#16 7#32 = some [0x7F7F7F7F#32] ∧
    lane16Result .vasrBHRndSat 0x8000#16 7#32 = some [0x80808080#32] ∧
    lane16Result .vasrBHRndSat 0xFFFF#16 1#32 = some [0x00000000#32] ∧
    lane16Result .vasrBHRndSat 0x00FF#16 1#32 = some [0x7F7F7F7F#32] ∧
    lane16Result .vasrBHRndSat 0xFFFD#16 1#32 = some [0xFFFFFFFF#32] ∧
    lane16Result .vasrBHRndSat 0x0005#16 1#32 = some [0x03030303#32] ∧
    lane16Result .vasrBHRndSat 0x0005#16 0#32 = some [0x05050505#32] := by
  decide

/-- V-H19, V-H21, V-H46, V-H47 (R167). -/
theorem test_exec_vasrHWRndSat :
    lane32Result .vasrHWRndSat 0x7FFFFFFF#32 15#32 = some [0x7FFF7FFF#32] ∧
    lane32Result .vasrHWRndSat 0x80000000#32 15#32 = some [0x80008000#32] ∧
    lane32Result .vasrHWRndSat 0x3FFFC000#32 15#32 = some [0x7FFF7FFF#32] ∧
    lane32Result .vasrHWRndSat 0x3FFFBFFF#32 15#32 = some [0x7FFF7FFF#32] := by
  decide

/-- V-H22, V-H24, V-H25, V-H44 (R168). -/
theorem test_exec_vasrHW :
    lane32Result .vasrHW 0x12345678#32 8#32 = some [0x34563456#32] ∧
    lane32Result .vasrHW 0xEDCBA988#32 4#32 = some [0xBA98BA98#32] ∧
    lane32Result .vasrHW 0x00018000#32 1#32 = some [0xC000C000#32] ∧
    lane32Result .vasrHW 0x00008000#32 0#32 = some [0x80008000#32] := by
  decide

/-- V-H20, V-H23, V-H26, V-H42, V-H43, V-H45 (R169). -/
theorem test_exec_vasrHWSat :
    lane32Result .vasrHWSat 0x7FFFFFFF#32 15#32 = some [0x7FFF7FFF#32] ∧
    lane32Result .vasrHWSat 0x12345678#32 8#32 = some [0x7FFF7FFF#32] ∧
    lane32Result .vasrHWSat 0x00018000#32 1#32 = some [0x7FFF7FFF#32] ∧
    lane32Result .vasrHWSat 0x00007FFF#32 0#32 = some [0x7FFF7FFF#32] ∧
    lane32Result .vasrHWSat 0x00008000#32 0#32 = some [0x7FFF7FFF#32] ∧
    lane32Result .vasrHWSat 0xFFFF7FFF#32 0#32 = some [0x80008000#32] := by
  decide

/-- V-H15, V-H37 (R170). -/
theorem test_exec_vasrUbHSat :
    lane16Result .vasrUbHSat 0x01FE#16 1#32 = some [0xFFFFFFFF#32] ∧
    lane16Result .vasrUbHSat 0x8000#16 0#32 = some [0x00000000#32] := by
  decide

/-- V-H13, V-H14, V-H18, V-H35 (R171). -/
theorem test_exec_vasrUbHRndSat :
    lane16Result .vasrUbHRndSat 0xFFFB#16 2#32 = some [0x00000000#32] ∧
    lane16Result .vasrUbHRndSat 0x01FF#16 1#32 = some [0xFFFFFFFF#32] ∧
    lane16Result .vasrUbHRndSat 0x7FFF#16 7#32 = some [0xFFFFFFFF#32] ∧
    lane16Result .vasrUbHRndSat 0xFFFF#16 7#32 = some [0x00000000#32] := by
  decide

/-- V-H15, V-H17, V-H36 (R172). -/
theorem test_exec_vasrUbUhSat :
    lane16Result .vasrUbUhSat 0x01FE#16 1#32 = some [0xFFFFFFFF#32] ∧
    lane16Result .vasrUbUhSat 0xFFFF#16 7#32 = some [0xFFFFFFFF#32] ∧
    lane16Result .vasrUbUhSat 0x8000#16 7#32 = some [0xFFFFFFFF#32] := by
  decide

/-- V-H14, V-H16, V-H18 (R173). -/
theorem test_exec_vasrUbUhRndSat :
    lane16Result .vasrUbUhRndSat 0x01FF#16 1#32 = some [0xFFFFFFFF#32] ∧
    lane16Result .vasrUbUhRndSat 0xFFFF#16 7#32 = some [0xFFFFFFFF#32] ∧
    lane16Result .vasrUbUhRndSat 0x7FFF#16 7#32 = some [0xFFFFFFFF#32] := by
  decide

/-- V-H28, V-H29, V-H34, V-H48 (R174). -/
theorem test_exec_vasrUhUwSat :
    lane32Result .vasrUhUwSat 0xFFFFFFFF#32 15#32 = some [0xFFFFFFFF#32] ∧
    lane32Result .vasrUhUwSat 0xFFFFFFFF#32 0#32 = some [0xFFFFFFFF#32] ∧
    lane32Result .vasrUhUwSat 0x00012345#32 4#32 = some [0x12341234#32] ∧
    lane32Result .vasrUhUwSat 0x80000000#32 15#32 = some [0xFFFFFFFF#32] := by
  decide

/-- V-H27, V-H31, V-H32, V-H33 (R175). -/
theorem test_exec_vasrUhUwRndSat :
    lane32Result .vasrUhUwRndSat 0xFFFFFFFF#32 15#32 = some [0xFFFFFFFF#32] ∧
    lane32Result .vasrUhUwRndSat 0x7FFFFFFF#32 15#32 = some [0xFFFFFFFF#32] ∧
    lane32Result .vasrUhUwRndSat 0x0001FFFF#32 1#32 = some [0xFFFFFFFF#32] ∧
    lane32Result .vasrUhUwRndSat 0x00012345#32 4#32 = some [0x12341234#32] := by
  decide

/-- V-H34, V-H49 (R176). -/
theorem test_exec_vasrUhWSat :
    lane32Result .vasrUhWSat 0x00012345#32 4#32 = some [0x12341234#32] ∧
    lane32Result .vasrUhWSat 0x80000000#32 15#32 = some [0x00000000#32] := by
  decide

/-- V-H30, V-H31, V-H32, V-H33 (R177). -/
theorem test_exec_vasrUhWRndSat :
    lane32Result .vasrUhWRndSat 0xFFFFFFFF#32 3#32 = some [0x00000000#32] ∧
    lane32Result .vasrUhWRndSat 0x7FFFFFFF#32 15#32 = some [0xFFFFFFFF#32] ∧
    lane32Result .vasrUhWRndSat 0x0001FFFF#32 1#32 = some [0xFFFFFFFF#32] ∧
    lane32Result .vasrUhWRndSat 0x00012345#32 4#32 = some [0x12341234#32] := by
  decide

/-- V-W1, V-W2, V-W3, V-W4, V-W5, V-W6, V-W7: whole registers of 64 bits, the upper bits of `Rt` ignored (R162, R164). -/
theorem test_exec_vasr_registers :
    vasrResult (.vasrBHSat 3 1 2 4) (vecState [0x0100FFFF#32, 0x7FFF8000#32] [0xFF800080#32, 0x000100FF#32] 0x00000014#32) = some [0x10F8FF08#32, 0x7F00800F#32] ∧
    vasrResult (.vasrBHRndSat 3 1 2 4) (vecState [0x0100FFFF#32, 0x7FFF8000#32] [0xFF800080#32, 0x000100FF#32] 0x00000014#32) = some [0x10F80008#32, 0x7F008010#32] ∧
    vasrResult (.vasrHW 3 1 2 4) (vecState [0xFFFF8000#32, 0x7FFFFFFF#32] [0x80000000#32, 0x00012345#32] 0xFFFFFFF4#32) = some [0xF8000000#32, 0xFFFF1234#32] ∧
    vasrResult (.vasrHWSat 3 1 2 4) (vecState [0xFFFF8000#32, 0x7FFFFFFF#32] [0x80000000#32, 0x00012345#32] 0xFFFFFFF4#32) = some [0xF8008000#32, 0x7FFF1234#32] ∧
    vasrResult (.vasrHWRndSat 3 1 2 4) (vecState [0xFFFF8000#32, 0x7FFFFFFF#32] [0x80000000#32, 0x00012345#32] 0xFFFFFFF4#32) = some [0xF8008000#32, 0x7FFF1234#32] ∧
    vasrResult (.vasrUhWRndSat 3 1 2 4) (vecState [0xFFFF8000#32, 0x7FFFFFFF#32] [0x80000000#32, 0x00012345#32] 0xFFFFFFF4#32) = some [0x00000000#32, 0xFFFF1234#32] ∧
    vasrResult (.vasrUhUwRndSat 3 1 2 4) (vecState [0xFFFF8000#32, 0x7FFFFFFF#32] [0x80000000#32, 0x00012345#32] 0xFFFFFFF4#32) = some [0xFFFFFFFF#32, 0xFFFF1234#32] := by
  decide

/-- The destination may be a source: the sources are read first (R164, D19). -/
theorem test_exec_vasr_inPlace :
    (next? (exec (.vasrHW 1 1 2 4) (vecState [0x12345678#32] [0x9ABCDEF0#32] 0#32))).map (fun t => t.readV 1) =
      some [0x5678DEF0#32] := by
  decide

/-- The fault of an outcome, if it is one. -/
def fault? (o : Host.Outcome State Fault Refusal) : Option Fault :=
  match o with
  | .fault f => some f
  | _ => none

/-- The refusal of an outcome, if it is one. -/
def refused? (o : Host.Outcome State Fault Refusal) : Option Refusal :=
  match o with
  | .refused r => some r
  | _ => none

/-- A word from general knowledge in a state with the switch off. -/
def unsourcedState : State :=
  Launch.state { Launch.default with
    text := [(0#32, 0xF302C301#32)]
    vlenWords := 1 }

/-- V-X2 to V-X6: what a step refuses, and the switch of V-X6. -/
theorem test_step_refuses :
    refused? (step (stateAt 0#32 0x11824004#32 false [])) = some (.parseNotSingle 0x11824004#32) ∧
    refused? (step (stateAt 0#32 0x00000000#32 false [])) = some (.parseNotSingle 0#32) ∧
    refused? (step (stateAt 0#32 0x1182C204#32 false [])) = some (.noSuchEncoding 0x1182C204#32) ∧
    refused? (step (stateAt 0#32 0x0000C000#32 false [])) = some (.noSuchEncoding 0x0000C000#32) ∧
    refused? (step unsourcedState) = some (.unsourcedEncoding 0xF302C301#32) ∧
    addResult 1 (stateAt 0#32 0xF302C301#32 false [(2, 5#32), (3, 0xFFFFFFFE#32)]) = some (3#32, false, 4#32) := by
  decide

/-- V-X7: a fetch outside the text; and from reset, where nothing is placed, the first step faults so (log 8). -/
theorem test_step_outsideText :
    fault? (step { stateAt 0#32 0x1182C004#32 false [] with pc := 0x00003000#32 }) =
      some (.fetchOutsideText 0x00003000#32) ∧
    fault? (step State.reset) = some (.fetchOutsideText 0#32) := by
  decide

/-- V-X8: a misaligned ENTRY_PC (and HALT_PC) is refused at launch (R221). -/
theorem test_launch_misaligned :
    refused? (launch { Launch.default with entryPc := 0x00001002#32 }) = some .misalignedEntry ∧
    refused? (launch { Launch.default with haltPc := 0x00001001#32 }) = some .misalignedEntry := by
  decide

/-- A state at HALT_PC whose text holds a word there. -/
def haltedState : State :=
  Launch.state { Launch.default with
    haltPc := 0#32
    text := [(0#32, 0x1182C004#32)]
    vlenWords := 1
    launchOvf := some true }

/-- V-X9: at HALT_PC nothing is fetched, even where the text has a word (R226). -/
theorem test_step_final : next? (step haltedState) = some haltedState := by decide

/-- V-X10, V-X11: `pc` wraps in both directions (R29). HALT_PC is moved away from 0xFFFFFFFC, where V-X10 starts. -/
theorem test_step_pcWraps :
    addResult 0 { stateAt 0xFFFFFFFC#32 0xB000C020#32 false [] with
      params := { (stateAt 0xFFFFFFFC#32 0xB000C020#32 false []).params with haltPc := 0x100#32 } } =
        some (1#32, false, 0x00000000#32) ∧
    predAndPc (stateAt 0#32 0x11F0C3FE#32 false [(0, 2#32)]) =
      some ([0x00#8, 0x5A#8, 0x5A#8, 0x5A#8], 0xFFFFFFFC#32) := by
  decide

/-- The word placed by the host is the very next instruction, from reset as well (log 8). -/
theorem test_withFetchWord :
    (next? (step (State.reset.withFetchWord 32 0xB000C020))).map (fun t => (t.readR 0, t.pc)) = some (1#32, 4#32) ∧
    (next? (step (State.reset.withFetchWord 32 0x10E9FF00))).map (fun t => (t.readP 0, t.pc)) =
      some (0x00#8, 0xFFFFFC00#32) := by
  decide

/-- The intrinsics return the `Rd` of V-A1, V-A8 and V-A11 (R196). -/
theorem test_intrinsics :
    q6RAddRI 0x00010000#32 (-32768) = 0x00008000#32 ∧ q6RAddRR 0x7FFFFFFF#32 1#32 = 0x80000000#32 ∧
    q6RAddRRSat 0x60000000#32 0x60000000#32 = 0x7FFFFFFF#32 := by
  decide

/-- The reset state satisfies the invariant, and its text is in canonical form. -/
theorem test_reset_inv : State.reset.Inv ∧ State.reset.params.text.wf = true := by decide

/-! ## Witnesses: states and operands that meet the hypotheses of a statement -/

theorem next_of_isSome {o : Host.Outcome State Fault Refusal} (h : (next? o).isSome = true) : ∃ t, o = .next t := by
  cases o with
  | next t => exact ⟨t, rfl⟩
  | fault f => cases h
  | refused r => cases h

theorem fault_of {o : Host.Outcome State Fault Refusal} {f : Fault} (h : fault? o = some f) : o = .fault f := by
  cases o <;> cases h
  rfl

theorem refused_of {o : Host.Outcome State Fault Refusal} {r : Refusal} (h : refused? o = some r) : o = .refused r := by
  cases o <;> cases h
  rfl

/-- The state of V-C1 as launched with the switch off. -/
def sourcedState : State :=
  Launch.state { Launch.default with
    text := [(0#32, 0x1182C004#32)]
    vlenWords := 1
    launchR := [(2, 0xFFFFFFFF#32)]
    launchOvf := some true }

/-- StepRunsTheDecodedInstruction: a sourced word with the switch off, and a word from general knowledge with the switch on. -/
theorem test_witness_StepRuns :
    (sourcedState.pc ≠ sourcedState.params.haltPc ∧ sourcedState.params.text.fetch sourcedState.pc = some 0x1182C004#32 ∧
      decode 0x1182C004#32 = .ok (.p0CmpEqN1NewNt 2 8) ∧ sourcedState.params.admitUnsourced = false ∧
      isUnsourced 0x1182C004#32 = false) ∧
    ((stateAt 0#32 0xF302C301#32 false []).pc ≠ (stateAt 0#32 0xF302C301#32 false []).params.haltPc ∧
      (stateAt 0#32 0xF302C301#32 false []).params.text.fetch 0#32 = some 0xF302C301#32 ∧
      decode 0xF302C301#32 = .ok (.addReg 1 2 3) ∧ (stateAt 0#32 0xF302C301#32 false []).params.admitUnsourced = true ∧
      isUnsourced 0xF302C301#32 = true) := by
  decide

/-- DecodeInvertsEncode: one well-formed instruction of each format, with operands at the ends of their ranges. -/
theorem test_witness_DecodeInvertsEncode :
    ((Instr.p1TstbitNotNewT 23 (-1024)).wf = true ∧ (encode (.p1TstbitNotNewT 23 (-1024))).isSome = true) ∧
    ((Instr.p1CmpGtuU5NotNewT 16 31 1020).wf = true ∧ (encode (.p1CmpGtuU5NotNewT 16 31 1020)).isSome = true) ∧
    ((Instr.p1CmpGtuRRNotNewT 7 23 (-4)).wf = true ∧ (encode (.p1CmpGtuRRNotNewT 7 23 (-4))).isSome = true) ∧
    ((Instr.jumpGeT 31 (-16384)).wf = true ∧ (encode (.jumpGeT 31 (-16384))).isSome = true) ∧
    ((Instr.addImm 31 31 32767).wf = true ∧ (encode (.addImm 31 31 32767)).isSome = true) ∧
    ((Instr.addRegSat 31 31 31).wf = true ∧ (encode (.addRegSat 31 31 31)).isSome = true) := by
  decide

/-- OnlyVasrHasNoEncoding: both sides occur, and words decode. -/
theorem test_witness_OnlyVasr :
    (encode (.vasrHW 1 2 3 4) = none ∧ (Instr.vasrHW 1 2 3 4).format = .hvxUnknown) ∧
    (encode (.addReg 1 2 3) ≠ none ∧ (Instr.addReg 1 2 3).format ≠ .hvxUnknown) ∧
    decode 0xF302C301#32 = .ok (.addReg 1 2 3) := by
  decide

/-- DecodeProcedureSelectsTheUniqueRow: a word for each clause, in a state that holds it and is not final. -/
theorem test_witness_DecodeProcedure :
    (fieldParse 0x11824004#32 ≠ 3#2 ∧ (stateAt 0#32 0x11824004#32 false []).final = false ∧
      (stateAt 0#32 0x11824004#32 false []).params.text.fetch 0#32 = some 0x11824004#32) ∧
    (fieldParse 0x1182C204#32 = 3#2 ∧ (∀ r ∈ rows, 0x1182C204#32 &&& r.mask ≠ r.matchBits) ∧
      (stateAt 0#32 0x1182C204#32 false []).final = false ∧
      (stateAt 0#32 0x1182C204#32 false []).params.text.fetch 0#32 = some 0x1182C204#32) ∧
    (fieldParse 0x1182C004#32 = 3#2 ∧ (∃ r ∈ rows, 0x1182C004#32 &&& r.mask = r.matchBits ∧ r.provenance = .source) ∧
      sourcedState.final = false ∧ sourcedState.params.text.fetch sourcedState.pc = some 0x1182C004#32) ∧
    (fieldParse 0xF302C301#32 = 3#2 ∧
      (∃ r ∈ rows, 0xF302C301#32 &&& r.mask = r.matchBits ∧ r.provenance = .generalKnowledge) ∧
      (stateAt 0#32 0xF302C301#32 false []).final = false ∧
      (stateAt 0#32 0xF302C301#32 false []).params.text.fetch 0#32 = some 0xF302C301#32) := by
  decide

/-- DashBitsAreIgnoredAndWrittenZero: words of the formats with `-` bits that differ in those bits alone. -/
theorem test_witness_DashBits :
    (∃ r ∈ rows, r.format = .cjN1 ∧ r.selects 0x1182C004#32 = true ∧ fieldParse 0x1182C004#32 = 3#2 ∧
      0x1182DC05#32 &&& definedBits r.format = 0x1182C004#32 &&& definedBits r.format) ∧
    (∃ r ∈ rows, r.format = .alu32Rrr ∧ r.selects 0xF302C301#32 = true ∧ fieldParse 0xF302C301#32 = 3#2 ∧
      0xF302E3E1#32 &&& definedBits r.format = 0xF302C301#32 &&& definedBits r.format) ∧
    (∃ r ∈ rows, r.format = .jr ∧ r.selects 0x615FEFFE#32 = true ∧ fieldParse 0x615FEFFE#32 = 3#2 ∧
      0x615FEFFF#32 &&& definedBits r.format = 0x615FEFFE#32 &&& definedBits r.format) ∧
    encode (.addReg 1 2 3) = some 0xF302C301#32 := by
  decide

/-- DecodedInstructionsAreWellFormed: a word of each immediate's extreme value decodes. -/
theorem test_witness_DecodedWf :
    decode 0x10E9FF00#32 = .ok (.p0CmpGtU5NotNewT 17 31 (-1024)) ∧ decode 0x61E0C000#32 = .ok (.jumpLeNt 0 (-16384)) ∧
    decode 0xB7E2FFE1#32 = .ok (.addImm 1 2 32767) := by
  decide

/-- UnassignedWordsAreNoEncoding: both classes, in a state that holds the word and is not final. -/
theorem test_witness_Unassigned :
    (fieldParse 0x1182C204#32 = 3#2 ∧ 0x1182C204#32 &&& 0xFD800300#32 = 0x11800200#32 ∧
      (stateAt 0#32 0x1182C204#32 false []).final = false ∧
      (stateAt 0#32 0x1182C204#32 false []).params.text.fetch 0#32 = some 0x1182C204#32) ∧
    (fieldParse 0x0000C000#32 = 3#2 ∧ 0x0000C000#32 &&& 0xF0000000#32 = 0x00000000#32 ∧
      (stateAt 0#32 0x0000C000#32 false []).final = false ∧
      (stateAt 0#32 0x0000C000#32 false []).params.text.fetch 0#32 = some 0x0000C000#32) := by
  decide

/-- The `#U5` compares: both ends of the range of `U`, with a register equal to, above and below it. -/
theorem test_witness_U5 :
    ((0 : Nat) < 32 ∧ (31 : Nat) < 32) ∧ ((stateAt 0#32 0#32 false [(7, 31#32)]).readR 7).toNat = 31 ∧
    ((stateAt 0#32 0#32 false [(7, 0xFFFFFFFF#32)]).readR 7).toInt < 0 ∧
    31 < ((stateAt 0#32 0#32 false [(7, 0xFFFFFFFF#32)]).readR 7).toNat := by
  decide

/-- EveryCompareJumpWritesItsPredicateThenJumps: a U at the end of its range, a pair of the list with a true compare and one
with a false compare, at an aligned pc, and a compare-and-jump. -/
theorem test_witness_EveryCompareJump :
    (31 < 32 ∧ (Instr.p1CmpGtuU5NotNewT 16 31 1020, true) ∈
      compareJumps .p1 .inverted .t 16 23 31 1020 (stateAt 0#32 0#32 false [(16, 0xFFFFFFFF#32)])) ∧
    ((Instr.p1CmpGtuU5NotNewT 16 31 1020, false) ∈
      compareJumps .p1 .inverted .t 16 23 31 1020 (stateAt 0#32 0#32 false [(16, 31#32)])) ∧
    aligned (stateAt 0#32 0#32 false []).pc = true ∧ (Instr.p1CmpGtuRRNotNewT 7 23 (-4)).isCompareJump = true := by
  decide

/-- CompareJumpMaskIsIdentityOnOffsets: offsets and a pc that are multiples of 4. -/
theorem test_witness_Mask : (-1024 : Int) % 4 = 0 ∧ (1020 : Int) % 4 = 0 ∧ (0xFFFFFFFC#32).toNat % 4 = 0 := by decide

/-- OnlyJumpsLeaveTheNextWord: an Add and a `vasr` at the last word, and a jump taken and one not. -/
theorem test_witness_OnlyJumps :
    ((Instr.addReg 1 2 3).cls ≠ .j ∧ (Instr.vasrHW 1 2 3 4).cls ≠ .j ∧ (stateAt 0xFFFFFFFC#32 0#32 false []).pc = 0xFFFFFFFC#32 ∧
      (next? (exec (.addReg 1 2 3) (stateAt 0xFFFFFFFC#32 0#32 false []))).isSome = true ∧
      (next? (exec (.vasrHW 1 2 3 4) (stateAt 0xFFFFFFFC#32 0#32 false []))).isSome = true) ∧
    ((next? (exec (.jumpEqNt 1 8) (stateAt 0#32 0#32 false []))).map (fun t => t.pc) = some 8#32 ∧
      (next? (exec (.jumpNeNt 1 8) (stateAt 0#32 0#32 false []))).map (fun t => t.pc) = some 4#32) := by
  decide

/-- OverflowFlagIsStickyAndNeverRead: OVF set before; OVF changed; a sum that does not saturate; a `vasr`. -/
theorem test_witness_Overflow :
    ((stateAt 0#32 0#32 true []).ovf = true ∧ (next? (exec (.addReg 1 2 3) (stateAt 0#32 0#32 true []))).isSome = true) ∧
    ((next? (exec (.addRegSat 1 2 2) (stateAt 0#32 0#32 false [(2, 0x40000000#32)]))).map (fun t => t.ovf) = some true ∧
      (stateAt 0#32 0#32 false [(2, 0x40000000#32)]).ovf = false) ∧
    ((next? (exec (.addRegSat 1 2 2) (stateAt 0#32 0#32 false [(2, 0xC0000000#32)]))).map (fun t => t.ovf) = some false) ∧
    ((Instr.vasrHW 1 2 3 4).format = .hvxUnknown ∧
      (next? (exec (.vasrHW 1 2 3 4) (stateAt 0#32 0#32 true []))).isSome = true) := by
  decide

/-- The `vasr` statements and the truncating one: an element index below the count, at its last value, for both counts. -/
theorem test_witness_Vasr :
    (vecState [0x7FFF8000#32, 1#32] [2#32, 3#32] 7#32).params.vlenWords = 2 ∧ 3 < 2 * 2 ∧ 1 < 2 ∧
    elem16 ((vecState [0x7FFF8000#32, 1#32] [2#32, 3#32] 7#32).readV 1) 1 = 0x7FFF#16 ∧
    elem32 ((vecState [0x7FFF8000#32, 1#32] [2#32, 3#32] 7#32).readV 2) 1 = 3#32 := by
  decide

/-- VasrShiftAmountIsTheLowBitsOfRt: two values of `Rt` that differ in the upper bits alone, and equal elements at different
places of `Vu` and `Vv`, for both widths. -/
theorem test_witness_VasrAmount :
    (0xFFFFFFF4#32 &&& 7#32 = 0x14#32 &&& 7#32 ∧ 0xFFFFFFF4#32 &&& 15#32 = 0x14#32 &&& 15#32 ∧ 0xFFFFFFF4#32 ≠ 0x14#32) ∧
    (vecState [5#32, 6#32] [6#32, 5#32] 1#32).params.vlenWords = 2 ∧
    elem32 ((vecState [5#32, 6#32] [6#32, 5#32] 1#32).readV 1) 1 = elem32 ((vecState [5#32, 6#32] [6#32, 5#32] 1#32).readV 2) 0 ∧
    elem16 ((vecState [5#32, 6#32] [6#32, 5#32] 1#32).readV 1) 1 = elem16 ((vecState [5#32, 6#32] [6#32, 5#32] 1#32).readV 2) 3 := by
  decide

/-- RoundingShiftGoesToNearestTiesUp: a shift of at least 1 exists, at its least value and at the greatest a `vasr` has. -/
theorem test_witness_Rounding : 1 ≤ 1 ∧ 1 ≤ 15 ∧ shr (-1) 1 true = 0 ∧ shr (-3) 1 true = -1 ∧ shr 5 0 true = 5 := by decide

/-- NoInstructionRaisesAnException: a well-formed instruction at an aligned pc. -/
theorem test_witness_NoException :
    (Instr.jumpLeT 31 16380).wf = true ∧ aligned (stateAt 0#32 0#32 false []).pc = true := by
  decide

/-- EachGroupWritesOnlyItsOwnRegisters: an instruction for each clause, which answers a next state. -/
theorem test_witness_EachGroup :
    ((Instr.p0TstbitNewT 0 4).cls ≠ .alu32 ∧ (Instr.addReg 1 2 3).isCompareJump = false ∧
      (Instr.jumpNeNt 1 8).cls ≠ .coprocVx) ∧
    (next? (exec (.p0TstbitNewT 0 4) (stateAt 0#32 0#32 false []))).isSome = true ∧
    (next? (exec (.addReg 1 2 3) (stateAt 0#32 0#32 false []))).isSome = true ∧
    (next? (exec (.jumpNeNt 1 8) (stateAt 0#32 0#32 false []))).isSome = true := by
  decide

/-- StepKeepsTheInvariant: a state that satisfies the invariant and steps. -/
theorem test_witness_StepKeepsTheInvariant : sourcedState.Inv ∧ ∃ t, step sourcedState = .next t :=
  ⟨by decide, next_of_isSome (by decide)⟩

/-- ProgramTextIsImmutable and RunsKeepInvariantStickyFlagAndVectors: a run of one step from a state that satisfies the
invariant, with OVF set. -/
theorem test_witness_Runs : sourcedState.Inv ∧ sourcedState.ovf = true ∧ ∃ t, Reaches 1 sourcedState t := by
  refine ⟨by decide, by decide, ?_⟩
  obtain ⟨t, ht⟩ := next_of_isSome (o := step sourcedState) (by decide)
  exact ⟨t, by simp only [Reaches, Host.Core.run]; rw [show Sys2Proof.core.step sourcedState = .next t from ht]⟩

/-- StepsStopOnlyAsTheChecksSay: a step that faults, and one that refuses for each reason. -/
theorem test_witness_Stops :
    step State.reset = .fault (.fetchOutsideText 0#32) ∧
    step (stateAt 0#32 0x11824004#32 false []) = .refused (.parseNotSingle 0x11824004#32) ∧
    step (stateAt 0#32 0x1182C204#32 false []) = .refused (.noSuchEncoding 0x1182C204#32) ∧
    step unsourcedState = .refused (.unsourcedEncoding 0xF302C301#32) :=
  ⟨fault_of (by decide), refused_of (by decide), refused_of (by decide), refused_of (by decide)⟩

/-- StopsDependOnPcAndParametersAlone: two different states with one pc and the same parameters, for each outcome. -/
theorem test_witness_StopsDepend :
    (stateAt 0#32 0x11824004#32 false [] ≠ stateAt 0#32 0x11824004#32 true [(2, 1#32)] ∧
      (stateAt 0#32 0x11824004#32 false []).pc = (stateAt 0#32 0x11824004#32 true [(2, 1#32)]).pc ∧
      (stateAt 0#32 0x11824004#32 false []).params = (stateAt 0#32 0x11824004#32 true [(2, 1#32)]).params ∧
      refused? (step (stateAt 0#32 0x11824004#32 false [])) = some (.parseNotSingle 0x11824004#32)) ∧
    (State.reset.pc = (State.reset.writeR 2 1#32).pc ∧ State.reset.params = (State.reset.writeR 2 1#32).params ∧
      fault? (step State.reset) = some (.fetchOutsideText 0#32)) ∧
    (sourcedState.pc = (sourcedState.writeR 2 1#32).pc ∧ sourcedState.params = (sourcedState.writeR 2 1#32).params ∧
      (next? (step sourcedState)).isSome = true) := by
  decide

/-- FinalStatesStay: a state whose pc is HALT_PC. -/
theorem test_witness_Final : haltedState.pc = haltedState.params.haltPc := by decide

/-- LaunchRefusesMisalignedAddresses, LaunchStateHoldsTheGivenValues, LaunchesSatisfyTheInvariant: a well-formed launch with
two entries for one register, and with vector values that are too short and too long, that answers a next state. -/
theorem test_witness_Launch :
    ∃ l : Launch, l.wf = true ∧ (l.entryPc.toNat % 4 = 0 ∧ l.haltPc.toNat % 4 = 0) ∧ (∃ s, launch l = .next s) ∧
      launchedValue l.launchR 2 = 7#32 ∧ launchedValue l.launchR 3 = 0#32 ∧ l.launchP ≠ [] ∧
      launchedVector l.vlenWords l.launchV 1 = [6#32, 0#32] ∧ launchedVector l.vlenWords l.launchV 2 = [7#32, 8#32] ∧
      launchedVector l.vlenWords l.launchV 3 = [0#32, 0#32] :=
  ⟨{ Launch.default with
      entryPc := 0x1000#32
      text := [(0x1000#32, 0x1182C004#32)]
      launchR := [(2, 5#32), (2, 7#32)]
      vlenWords := 2
      launchP := [(0, 0xFF#8)]
      launchV := [(1, [5#32]), (1, [6#32]), (2, [7#32, 8#32, 9#32])] },
    by decide, by decide, next_of_isSome (by decide), by decide, by decide, by decide, by decide, by decide, by decide⟩

/-- LoadedTextIsFetched and FetchedWordsAreLittleEndian: a text of two words, at the two ends of the address space. -/
theorem test_witness_Text :
    (∀ c ∈ [(0xFFFFFFFC#32, 0xB000C020#32), (0#32, 0x1182C004#32)], aligned c.1 = true) ∧
    ([(0xFFFFFFFC#32, 0xB000C020#32), (0#32, 0x1182C004#32)].map Prod.fst).Nodup ∧
    (loadText [(0xFFFFFFFC#32, 0xB000C020#32), (0#32, 0x1182C004#32)]).fetch 0xFFFFFFFC#32 = some 0xB000C020#32 ∧
    (loadText [(0xFFFFFFFC#32, 0xB000C020#32), (0#32, 0x1182C004#32)]).read 0 = some 0x04#8 :=
  ⟨List.all_eq_true.1 (by decide), by decide, by decide, by decide⟩

/-- PlacedInstructionRunsNext: an aligned pc and a word that decodes. -/
theorem test_witness_Place : aligned State.reset.pc = true ∧ decode 0xB000C020#32 = .ok (.addImm 0 0 1) := by decide

end Sys2Proof.Tests
end

section
/-! PROOFS. What every step and every run keeps (10_state.md): the facts about decoded instructions, about the meaning of an
instruction as a function of the state, about the shape of a next state, about runs and about the launch, and with them the
statements of this family. -/

namespace Sys2Proof

/-! ## What the rows of the opcode table build -/

/-- Whatever word it is given, the row builds a well-formed instruction that has an encoding. -/
def Row.Sound (r : Row) : Prop := ∀ w : Word, (r.build w).wf = true ∧ (r.build w).format ≠ .hvxUnknown

/-- Every `#r9:2` field holds an offset in range (R79). -/
theorem r9Ok_fieldR9 (w : Word) : r9Ok (fieldR9 w) = true := by
  have hlo := BitVec.le_toInt (w.extractLsb' 20 2 ++ w.extractLsb' 1 7)
  have hhi := BitVec.toInt_lt (x := w.extractLsb' 20 2 ++ w.extractLsb' 1 7)
  simp only [r9Ok, Bool.and_eq_true, decide_eq_true_eq]
  unfold fieldR9
  omega

/-- Every `#r13:2` field holds an offset in range (R82). -/
theorem r13Ok_fieldR13 (w : Word) : r13Ok (fieldR13 w) = true := by
  have hlo := BitVec.le_toInt (w.extractLsb' 21 1 ++ w.extractLsb' 13 1 ++ w.extractLsb' 1 11)
  have hhi := BitVec.toInt_lt (x := w.extractLsb' 21 1 ++ w.extractLsb' 13 1 ++ w.extractLsb' 1 11)
  simp only [r13Ok, Bool.and_eq_true, decide_eq_true_eq]
  unfold fieldR13
  omega

/-- Every `#s16` field holds a value in range (R83). -/
theorem s16Ok_fieldS16 (w : Word) : s16Ok (fieldS16 w) = true := by
  have hlo := BitVec.le_toInt (w.extractLsb' 21 7 ++ w.extractLsb' 5 9)
  have hhi := BitVec.toInt_lt (x := w.extractLsb' 21 7 ++ w.extractLsb' 5 9)
  simp only [s16Ok, Bool.and_eq_true, decide_eq_true_eq]
  unfold fieldS16
  omega

/-- Every `#U5` field holds a value in range (R80). -/
theorem u5Ok_fieldU5 (w : Word) : u5Ok (fieldU5 w) = true := decide_eq_true (w.extractLsb' 8 5).isLt

theorem cjRegOk_fieldS4 (w : Word) : cjRegOk (fieldS4 w) = true := cjRegOk_cjReg _

theorem cjRegOk_fieldT4 (w : Word) : cjRegOk (fieldT4 w) = true := cjRegOk_cjReg _

section
variable {asm : String} {pv : Provenance} {m : Word}

theorem rowN1_sound {f : GReg → Int → Instr} (hwf : ∀ rs off, (f rs off).wf = (cjRegOk rs && r9Ok off))
    (hf : ∀ rs off, (f rs off).format = .cjN1) : (rowN1 asm pv m f).Sound := fun w => by
  simp [rowN1, hwf, hf, cjRegOk_fieldS4, r9Ok_fieldR9]

theorem rowU5_sound {f : GReg → Nat → Int → Instr}
    (hwf : ∀ rs u off, (f rs u off).wf = (cjRegOk rs && u5Ok u && r9Ok off))
    (hf : ∀ rs u off, (f rs u off).format = .cjU5) : (rowU5 asm pv m f).Sound := fun w => by
  simp [rowU5, hwf, hf, cjRegOk_fieldS4, u5Ok_fieldU5, r9Ok_fieldR9]

theorem rowRR_sound {f : GReg → GReg → Int → Instr}
    (hwf : ∀ rs rt off, (f rs rt off).wf = (cjRegOk rs && cjRegOk rt && r9Ok off))
    (hf : ∀ rs rt off, (f rs rt off).format = .cjRR) : (rowRR asm pv m f).Sound := fun w => by
  simp [rowRR, hwf, hf, cjRegOk_fieldS4, cjRegOk_fieldT4, r9Ok_fieldR9]

theorem rowJR_sound {f : GReg → Int → Instr} (hwf : ∀ rs off, (f rs off).wf = r13Ok off)
    (hf : ∀ rs off, (f rs off).format = .jr) : (rowJR asm pv m f).Sound := fun w => by
  simp [rowJR, hwf, hf, r13Ok_fieldR13]

theorem rowAddi_sound {f : GReg → GReg → Int → Instr} (hwf : ∀ rd rs s16, (f rd rs s16).wf = s16Ok s16)
    (hf : ∀ rd rs s16, (f rd rs s16).format = .addi) : (rowAddi asm pv m f).Sound := fun w => by
  simp [rowAddi, hwf, hf, s16Ok_fieldS16]

theorem rowRrr_sound {f : GReg → GReg → GReg → Instr} (hwf : ∀ rd rs rt, (f rd rs rt).wf = true)
    (hf : ∀ rd rs rt, (f rd rs rt).format = .alu32Rrr) : (rowRrr asm pv m f).Sound := fun w => by
  simp [rowRrr, hwf, hf]

end

theorem rowsN1_sound : ∀ r ∈ rowsCmpEqN1 ++ rowsCmpGtN1 ++ rowsTstbit, r.Sound := by
  simp only [rowsCmpEqN1, rowsCmpGtN1, rowsTstbit, List.forall_mem_append, List.forall_mem_cons, List.not_mem_nil,
    false_imp_iff, implies_true, and_true]
  and_intros <;> exact rowN1_sound (fun _ _ => rfl) fun _ _ => rfl

theorem rowsU5_sound : ∀ r ∈ rowsCmpEqU5 ++ rowsCmpGtU5 ++ rowsCmpGtuU5, r.Sound := by
  simp only [rowsCmpEqU5, rowsCmpGtU5, rowsCmpGtuU5, List.forall_mem_append, List.forall_mem_cons, List.not_mem_nil,
    false_imp_iff, implies_true, and_true]
  and_intros <;> exact rowU5_sound (fun _ _ _ => rfl) fun _ _ _ => rfl

theorem rowsRR_sound : ∀ r ∈ rowsCmpEqRR ++ rowsCmpGtRR ++ rowsCmpGtuRR, r.Sound := by
  simp only [rowsCmpEqRR, rowsCmpGtRR, rowsCmpGtuRR, List.forall_mem_append, List.forall_mem_cons, List.not_mem_nil,
    false_imp_iff, implies_true, and_true]
  and_intros <;> exact rowRR_sound (fun _ _ _ => rfl) fun _ _ _ => rfl

theorem rowsJumpOnRegister_sound : ∀ r ∈ rowsJumpOnRegister, r.Sound := by
  simp only [rowsJumpOnRegister, List.forall_mem_cons, List.not_mem_nil, false_imp_iff, implies_true, and_true]
  and_intros <;> exact rowJR_sound (fun _ _ => rfl) fun _ _ => rfl

theorem rowsAdd_sound : ∀ r ∈ rowsAdd, r.Sound := by
  intro r h
  simp only [rowsAdd, List.mem_cons, List.not_mem_nil, or_false] at h
  obtain rfl | rfl | rfl := h
  · exact rowAddi_sound (fun _ _ _ => rfl) fun _ _ _ => rfl
  · exact rowRrr_sound (fun _ _ _ => rfl) fun _ _ _ => rfl
  · exact rowRrr_sound (fun _ _ _ => rfl) fun _ _ _ => rfl

/-- Every encoded row builds well-formed instructions that have an encoding (R85, R100, R223). -/
theorem rows_sound : ∀ r ∈ rows, r.Sound := by
  have hN1 := rowsN1_sound
  have hU5 := rowsU5_sound
  have hRR := rowsRR_sound
  simp only [List.forall_mem_append] at hN1 hU5 hRR
  obtain ⟨⟨hEqN1, hGtN1⟩, hTstbit⟩ := hN1
  obtain ⟨⟨hEqU5, hGtU5⟩, hGtuU5⟩ := hU5
  obtain ⟨⟨hEqRR, hGtRR⟩, hGtuRR⟩ := hRR
  simp only [rows, List.forall_mem_append]
  exact ⟨⟨⟨⟨⟨⟨⟨⟨⟨⟨hEqN1, hEqU5⟩, hEqRR⟩, hGtN1⟩, hGtU5⟩, hGtRR⟩, hGtuU5⟩, hGtuRR⟩, hTstbit⟩, rowsJumpOnRegister_sound⟩,
    rowsAdd_sound⟩

/-- The row a word selects is one of the table, so it builds well-formed instructions that have an encoding (R86). -/
theorem decodeRow_sound {w : Word} {r : Row} (h : decodeRow w = .ok r) : r.Sound := by
  obtain ⟨-, hmem, -⟩ := decodeRow_ok h
  exact rows_sound r hmem

end Sys2Proof

namespace Sys2Proof.Machine

open Sys2Proof

/-- What a fetch hands to a step is well formed and no `vasr` (R85, R86). -/
theorem fetchInstr_sound {s : State} {i : Instr} (h : fetchInstr s = .next i) :
    i.wf = true ∧ i.format ≠ .hvxUnknown := by
  obtain ⟨w, r, -, hr, -, rfl⟩ := fetchInstr_next h
  exact decodeRow_sound hr w

/-! ## Targets of a jump -/

/-- The mask `~PCALIGN_MASK` changes no multiple of 4 (R27). -/
theorem and_not_pcAlignMask {x : Word} (h : aligned x = true) : x &&& ~~~Config.pcAlignMask = x := by
  rw [aligned, beq_iff_eq] at h
  apply BitVec.eq_of_getLsbD_eq
  intro i hi
  by_cases hlow : i < 2
  · have hbit : x.getLsbD i = false := by simpa [hlow] using congrArg (·.getLsbD i) h
    simp [hbit]
  · have hmask : Config.pcAlignMask.getLsbD i = false :=
      Nat.testBit_lt_two_pow (Nat.lt_of_lt_of_le (by decide : 3 < 2 ^ 2) (Nat.pow_le_pow_right (by decide) (by omega)))
    rw [BitVec.getLsbD_and, BitVec.getLsbD_not, hmask]
    simp [hi]

/-- For an offset that is a multiple of 4 the compare-and-jump target is `pc` plus the offset, modulo 2^32 (R29, R102). -/
theorem cjTarget_of_dvd (pc : Word) {off : Int} (h : off % 4 = 0) :
    cjTarget pc off = BitVec.ofInt 32 ((pc.toNat : Int) + off) := by
  rw [cjTarget, applyExtension, and_not_pcAlignMask (aligned_immWord h), BitVec.ofInt_add, immWord]
  simp

/-- The target of a compare-and-jump at an aligned `pc` is aligned, whatever the offset (R102). -/
theorem aligned_cjTarget {pc : Word} (off : Int) (h : aligned pc = true) : aligned (cjTarget pc off) = true :=
  aligned_add h (aligned_mask _)

/-- The target of a jump on register at an aligned `pc` is aligned when its offset is (R141). -/
theorem aligned_jrTarget {pc : Word} {off : Int} (h : aligned pc = true) (hoff : off % 4 = 0) :
    aligned (jrTarget pc off) = true :=
  aligned_add h (aligned_immWord hoff)

/-- The next word of an aligned `pc` is aligned (R28). -/
theorem aligned_nextWord {pc : Word} (h : aligned pc = true) : aligned (pc + 4#32) = true := aligned_add h rfl

/-- Settles O21: the mask changes no aligned offset, and a masked offset added to an aligned `pc` is aligned. -/
theorem compareJumpMaskIsIdentityOnOffsets : Obligations.CompareJumpMaskIsIdentityOnOffsets :=
  ⟨fun pc _ h => cjTarget_of_dvd pc h, fun _ off h => (aligned_iff _).1 (aligned_cjTarget off ((aligned_iff _).2 h))⟩

/-! ## The shape of a next state: what each group leaves unchanged -/

/-- The next state of an instruction has one of the four shapes. -/
theorem shape_of_exec {i : Instr} {s t : State} (h : exec i s = .next t) : Shape i s t := by
  obtain ⟨t', ht', hs⟩ := exec_shape i s
  rw [h] at ht'
  cases ht'
  exact hs

theorem cls_of_isCompareJump {i : Instr} (h : i.isCompareJump = true) : i.cls = .j := by
  unfold Instr.isCompareJump at h
  unfold Instr.cls
  cases hf : i.format <;> simp [hf] at h ⊢

theorem cls_of_format_jr {i : Instr} (h : i.format = .jr) : i.cls = .j := by simp [Instr.cls, h]

theorem cls_of_format_hvxUnknown {i : Instr} (h : i.format = .hvxUnknown) : i.cls = .coprocVx := by simp [Instr.cls, h]

/-- A compare-and-jump writes P0 or P1 (R100). -/
theorem ne_cjPred_reg {q : PReg} (h : 2 ≤ q.val) (d : CjPred) : q ≠ d.reg := by
  rintro rfl
  cases d <;> exact absurd h (by decide)

namespace Shape

variable {i : Instr} {s t : State}

/-- No instruction changes the parameters of the run (R37). -/
theorem params_eq (h : Shape i s t) : t.params = s.params := by cases h <;> rfl

/-- No instruction changes a byte of the text (R60). -/
theorem sameText (h : Shape i s t) : SameText s t := fun a => congrArg (·.text.read a) h.params_eq

/-- Only an Add writes a general register (R21). -/
theorem readR_eq (h : Shape i s t) (hi : i.cls ≠ .alu32) (q : GReg) : t.readR q = s.readR q := by
  cases h with
  | add _ _ _ hf => exact absurd hf hi
  | compareJump | jumpOnRegister | vasr => rfl

/-- Only a compare-and-jump writes a predicate (R30). -/
theorem readP_eq (h : Shape i s t) (hi : i.isCompareJump = false) (q : PReg) : t.readP q = s.readP q := by
  cases h with
  | compareJump _ _ _ _ hf => simp [hf] at hi
  | jumpOnRegister | add | vasr => rfl

/-- P2 and P3 are written by no instruction (R30, R100). -/
theorem readP_eq_of_two_le (h : Shape i s t) {q : PReg} (hq : 2 ≤ q.val) : t.readP q = s.readP q := by
  cases h with
  | compareJump d => exact State.writeP_readP_other s d.reg q _ (ne_cjPred_reg hq d)
  | jumpOnRegister | add | vasr => rfl

/-- Only a `vasr` writes a vector register (R178). -/
theorem readV_eq (h : Shape i s t) (hi : i.format ≠ .hvxUnknown) (q : VReg) : t.readV q = s.readV q := by
  cases h with
  | vasr _ _ _ hf => exact absurd hf hi
  | compareJump | jumpOnRegister | add => rfl

/-- A jump alone leaves `pc` elsewhere than at the next word (R28). -/
theorem pc_eq (h : Shape i s t) (hi : i.cls ≠ .j) : t.pc = s.pc + 4#32 := by
  cases h with
  | compareJump _ _ _ _ hf => exact absurd (cls_of_isCompareJump hf) hi
  | jumpOnRegister _ _ hf => exact absurd (cls_of_format_jr hf) hi
  | add | vasr => rfl

/-- A well-formed instruction at an aligned `pc` leaves `pc` aligned (R27). -/
theorem aligned_pc (h : Shape i s t) (hwf : i.wf = true) (hpc : aligned s.pc = true) : aligned t.pc = true := by
  cases h with
  | compareJump _ n c off =>
    rw [State.setPc_pc]
    split
    · exact aligned_cjTarget off hpc
    · exact aligned_nextWord hpc
  | jumpOnRegister c off _ hoff =>
    rw [State.setPc_pc]
    split
    · exact aligned_jrTarget hpc (hoff hwf)
    · exact aligned_nextWord hpc
  | add | vasr => exact aligned_nextWord hpc

/-- Vector registers of `VLEN_BITS` bits keep that length (R33). -/
theorem length_readV (h : Shape i s t) (hs : ∀ q : VReg, (s.readV q).length = s.params.vlenWords) (q : VReg) :
    (t.readV q).length = s.params.vlenWords := by
  cases h with
  | vasr vd x hx =>
    rw [State.advancePc_readV, State.writeV_readV]
    split
    · exact hx
    · exact hs q
  | compareJump | jumpOnRegister | add => exact hs q

/-- OVF is sticky (R31). -/
theorem ovf_sticky (h : Shape i s t) (hs : s.ovf = true) : t.ovf = true := by
  cases h with
  | add _ _ o => rw [State.advancePc_ovf, State.orOvf_ovf, State.writeR_ovf, hs, Bool.true_or]
  | compareJump | jumpOnRegister | vasr => exact hs

/-- No instruction outside the Add group changes OVF (R31, R178). -/
theorem ovf_eq (h : Shape i s t) (hi : i.cls ≠ .alu32) : t.ovf = s.ovf := by
  cases h with
  | add _ _ _ hf => exact absurd hf hi
  | compareJump | jumpOnRegister | vasr => rfl

/-- A well-formed instruction keeps the invariant. -/
theorem inv (h : Shape i s t) (hwf : i.wf = true) (hs : s.Inv) : t.Inv := by
  obtain ⟨hpc, hhalt, htext, hvlen, hlen⟩ := hs
  rw [State.Inv, h.params_eq]
  exact ⟨h.aligned_pc hwf hpc, hhalt, htext, hvlen, h.length_readV hlen⟩

end Shape

/-- Settles O44, by the shape of the next state. -/
theorem eachGroupWritesOnlyItsOwnRegisters : Obligations.EachGroupWritesOnlyItsOwnRegisters := by
  intro i s t h
  have hs := shape_of_exec h
  exact ⟨hs.readR_eq, hs.readP_eq, hs.readP_eq_of_two_le (by decide), hs.readP_eq_of_two_le (by decide),
    fun hi => hs.readV_eq fun hf => hi (cls_of_format_hvxUnknown hf), hs.params_eq, hs.sameText⟩

/-! ## Steps and runs -/

/-- A step that answers keeps the state, or its next state has the shape of a well-formed instruction that is no `vasr`. -/
theorem step_shape {s t : State} (h : step s = .next t) :
    t = s ∨ ∃ i : Instr, Shape i s t ∧ i.wf = true ∧ i.format ≠ .hvxUnknown := by
  obtain ⟨-, rfl⟩ | ⟨-, i, hi, ht⟩ := step_next h
  · exact .inl rfl
  · exact .inr ⟨i, shape_of_exec ht, fetchInstr_sound hi⟩

/-- Settles O45, by the cases of a step. -/
theorem stepKeepsTheInvariant : Obligations.StepKeepsTheInvariant := by
  intro s t hs h
  obtain rfl | ⟨i, hi, hwf, -⟩ := step_shape h
  · exact hs
  · exact hi.inv hwf hs

/-- A run of `k + 1` steps is a step and a run of `k` steps. -/
theorem reaches_succ {k : Nat} {s t : State} : Reaches (k + 1) s t ↔ ∃ u, step s = .next u ∧ Reaches k u t := by
  simp only [Reaches, Host.Core.run, core]
  cases hs : step s <;> simp

/-- A property that every step keeps is kept by every run. -/
theorem Reaches.keeps {P : State → Prop} (hP : ∀ s t, P s → step s = .next t → P t) {k : Nat} {s t : State}
    (h : Reaches k s t) (hs : P s) : P t := by
  induction k generalizing s with
  | zero => cases h; exact hs
  | succ k ih =>
    obtain ⟨u, hu, ht⟩ := reaches_succ.1 h
    exact ih ht (hP s u hs hu)

/-- What no step of a run changes from `s` to `t`: OVF once set, P2, P3 and the vector registers. -/
structure RunFrame (s t : State) : Prop where
  ovf : s.ovf = true → t.ovf = true
  p2 : t.readP 2 = s.readP 2
  p3 : t.readP 3 = s.readP 3
  v : ∀ q : VReg, t.readV q = s.readV q

theorem RunFrame.refl (s : State) : RunFrame s s := ⟨id, rfl, rfl, fun _ => rfl⟩

theorem RunFrame.trans {s t u : State} (h : RunFrame s t) (h' : RunFrame t u) : RunFrame s u :=
  ⟨h'.ovf ∘ h.ovf, h'.p2.trans h.p2, h'.p3.trans h.p3, fun q => (h'.v q).trans (h.v q)⟩

/-- Every step has the frame of a run, as no word encodes a `vasr` (R85). -/
theorem runFrame_of_step {s t : State} (h : step s = .next t) : RunFrame s t := by
  obtain rfl | ⟨i, hi, -, hv⟩ := step_shape h
  · exact .refl _
  · exact ⟨hi.ovf_sticky, hi.readP_eq_of_two_le (by decide), hi.readP_eq_of_two_le (by decide), hi.readV_eq hv⟩

/-- Settles O49: the invariant and the frame are kept by every step, so by every run. -/
theorem runsKeepInvariantStickyFlagAndVectors : Obligations.RunsKeepInvariantStickyFlagAndVectors := by
  intro k s t hs h
  have hinv : t.Inv := h.keeps stepKeepsTheInvariant hs
  obtain ⟨hovf, hp2, hp3, hv⟩ : RunFrame s t :=
    h.keeps (P := RunFrame s) (fun _ _ hu hstep => hu.trans (runFrame_of_step hstep)) (.refl s)
  exact ⟨hinv, hovf, hp2, hp3, hv⟩

/-! ## An instruction's meaning as a function of the state -/

/-- What is computed from the state without reading OVF. -/
def OvfFree {α : Type} (f : State → α) : Prop := ∀ (s : State) (b : Bool), f { s with ovf := b } = f s

/-- The five forms of an instruction's meaning, each one equation for every state: the operands of the shared operation
depend on the instruction alone, and what it computes from the state does not read OVF. -/
inductive ExecForm (i : Instr) : Prop where
  | compareJump (d : CjPred) (n : Sense) (c : State → Bool) (off : Int) (hc : OvfFree c)
      (he : ∀ s, exec i s = compareAndJump d n (c s) off s)
  | jumpOnRegister (c : State → Bool) (off : Int) (hc : OvfFree c) (he : ∀ s, exec i s = jumpOnRegister (c s) off s)
  | add (rd : GReg) (x : State → Word) (hx : OvfFree x) (he : ∀ s, exec i s = .next (s.writeR rd (x s)).advancePc)
  | addSat (rd rs rt : GReg) (hi : i = .addRegSat rd rs rt)
  | vasr (vd : VReg) (x : State → VecVal) (hx : OvfFree x) (he : ∀ s, exec i s = .next (s.writeV vd (x s)).advancePc)

/-- Every instruction's meaning has one of the five forms. -/
theorem exec_form (i : Instr) : ExecForm i := by
  cases i
  case addImm rd rs s16 => exact .add rd (fun s => addImmValue (s.readR rs) s16) (fun _ _ => rfl) fun _ => rfl
  case addReg rd rs rt => exact .add rd (fun s => addRegValue (s.readR rs) (s.readR rt)) (fun _ _ => rfl) fun _ => rfl
  case addRegSat rd rs rt => exact .addSat rd rs rt rfl
  case vasrBHSat | vasrBHRndSat | vasrUbHSat | vasrUbHRndSat | vasrUbUhSat | vasrUbUhRndSat |
      vasrHWRndSat | vasrHW | vasrHWSat | vasrUhUwSat | vasrUhUwRndSat | vasrUhWSat | vasrUhWRndSat =>
    exact .vasr _ _ (fun _ _ => rfl) fun _ => rfl
  case jumpNeNt | jumpNeT | jumpLeNt | jumpLeT | jumpEqNt | jumpEqT | jumpGeNt | jumpGeT =>
    exact .jumpOnRegister _ _ (fun _ _ => rfl) fun _ => rfl
  all_goals exact .compareJump _ _ _ _ (fun _ _ => rfl) fun _ => rfl

/-- What `add:sat` answers (R193). -/
theorem exec_addRegSat (rd rs rt : GReg) (s : State) :
    exec (.addRegSat rd rs rt) s = .next
      ((s.writeR rd (sat32 (exactSum (s.readR rs) (s.readR rt)))).orOvf
        (saturates32 (exactSum (s.readR rs) (s.readR rt)))).advancePc := rfl

/-- The next `pc` of an instruction is the next word or lies at a distance fixed by the instruction (R28, R29). -/
theorem exec_pc (i : Instr) :
    ∃ off : Word, ∀ s t : State, exec i s = .next t → t.pc = s.pc + 4#32 ∨ t.pc = s.pc + off := by
  cases exec_form i with
  | compareJump d n c off _ he =>
    refine ⟨immWord (applyExtension off) &&& ~~~Config.pcAlignMask, fun s t h => ?_⟩
    rw [he, compareAndJump_eq] at h
    cases h
    exact (ite_eq_or_eq _ _ _).symm
  | jumpOnRegister c off _ he =>
    refine ⟨immWord off, fun s t h => ?_⟩
    rw [he, jumpOnRegister_eq] at h
    cases h
    exact (ite_eq_or_eq _ _ _).symm
  | add _ _ _ he | vasr _ _ _ he =>
    refine ⟨4#32, fun s t h => .inl ?_⟩
    rw [he] at h
    cases h
    rfl
  | addSat rd rs rt hi =>
    subst hi
    refine ⟨4#32, fun s t h => .inl ?_⟩
    rw [exec_addRegSat] at h
    cases h
    rfl

/-- Settles O43: the first part by the shape of the next state, the second by the form of the meaning. -/
theorem onlyJumpsLeaveTheNextWord : Obligations.OnlyJumpsLeaveTheNextWord := by
  refine fun i => ⟨fun hi s t h => ?_, exec_pc i⟩
  have hpc := (shape_of_exec h).pc_eq hi
  exact ⟨hpc, fun hs => by rw [hpc, hs]; rfl⟩

/-! ## The overflow flag -/

/-- `add:sat` sets OVF when its exact sum saturates and leaves it otherwise (R193). -/
theorem ovf_of_exec_addRegSat {rd rs rt : GReg} {s t : State} (h : exec (.addRegSat rd rs rt) s = .next t) :
    t.ovf = if saturates32 ((s.readR rs).toInt + (s.readR rt).toInt) = true then true else s.ovf := by
  rw [exec_addRegSat] at h
  cases h
  rw [State.advancePc_ovf, State.orOvf_ovf, State.writeR_ovf, exactSum]
  split
  case isTrue hsat => rw [hsat, Bool.or_true]
  case isFalse hsat => rw [Bool.not_eq_true] at hsat; rw [hsat, Bool.or_false]

/-- Every instruction but `add:sat` leaves OVF (R31, R178, D18). -/
theorem ovf_of_exec {i : Instr} {s t : State} (h : exec i s = .next t) :
    t.ovf = s.ovf ∨ ∃ rd rs rt, i = .addRegSat rd rs rt := by
  cases exec_form i with
  | compareJump _ _ _ _ _ he => rw [he, compareAndJump_eq] at h; cases h; exact .inl rfl
  | jumpOnRegister _ _ _ he => rw [he, jumpOnRegister_eq] at h; cases h; exact .inl rfl
  | add _ _ _ he | vasr _ _ _ he => rw [he] at h; cases h; exact .inl rfl
  | addSat rd rs rt hi => exact .inr ⟨rd, rs, rt, hi⟩

/-- With another OVF before it, an instruction reaches the same state but for OVF (R31). -/
theorem exec_withOvf (i : Instr) (s : State) (b : Bool) :
    ∃ t t', exec i s = .next t ∧ exec i { s with ovf := b } = .next t' ∧ { t' with ovf := t.ovf } = t := by
  cases exec_form i with
  | compareJump d n c off hc he =>
    refine ⟨_, _, (he s).trans (compareAndJump_eq ..), (he _).trans (compareAndJump_eq ..), ?_⟩
    rw [hc]
    rfl
  | jumpOnRegister c off hc he =>
    refine ⟨_, _, (he s).trans (jumpOnRegister_eq ..), (he _).trans (jumpOnRegister_eq ..), ?_⟩
    rw [hc]
    rfl
  | add _ _ hx he | vasr _ _ hx he =>
    refine ⟨_, _, he s, he _, ?_⟩
    rw [hx]
    rfl
  | addSat rd rs rt hi =>
    subst hi
    exact ⟨_, _, exec_addRegSat .., exec_addRegSat .., rfl⟩

/-- Settles O31, by the forms of the meaning. -/
theorem overflowFlagIsStickyAndNeverRead : Obligations.OverflowFlagIsStickyAndNeverRead := by
  intro i s t h
  have hs := shape_of_exec h
  refine ⟨hs.ovf_sticky, fun hne => ?_, ?_, fun hf => hs.ovf_eq ?_, fun b => ?_⟩
  · obtain heq | ⟨rd, rs, rt, rfl⟩ := ovf_of_exec h
    · exact absurd heq hne
    · refine ⟨rd, rs, rt, rfl, ?_⟩
      by_contra hsat
      exact hne ((ovf_of_exec_addRegSat h).trans (if_neg hsat))
  · rintro rd rs rt rfl
    exact ovf_of_exec_addRegSat h
  · rw [cls_of_format_hvxUnknown hf]
    decide
  · obtain ⟨u, t', hu, ht', heq⟩ := exec_withOvf i s b
    obtain rfl : t = u := by rw [h] at hu; cases hu; rfl
    exact ⟨t', ht', heq⟩

/-! ## The launch -/

/-- The value of a launch list with one more entry: the last entry for a register holds (log 22). -/
theorem launchedValue_concat {n k : Nat} (l : List (Fin n × BitVec k)) (c : Fin n × BitVec k) (q : Fin n) :
    launchedValue (l ++ [c]) q = if q = c.1 then c.2 else launchedValue l q := by
  by_cases h : c.1 = q
  · simp [launchedValue, h]
  · simp [launchedValue, h, Ne.symm h]

theorem launchedVector_concat (n : Nat) (l : List (VReg × VecVal)) (c : VReg × VecVal) (q : VReg) :
    launchedVector n (l ++ [c]) q = if q = c.1 then fitVec n c.2 else launchedVector n l q := by
  by_cases h : c.1 = q
  · simp [launchedVector, h]
  · simp [launchedVector, h, Ne.symm h]

/-- The general registers after the launch's writes to a state in which `q` reads 0. -/
theorem readR_foldl_writeR (l : List (GReg × Word)) {s : State} {q : GReg} (hs : s.readR q = 0#32) :
    (l.foldl (fun s c => s.writeR c.1 c.2) s).readR q = launchedValue l q := by
  induction l using List.reverseRecOn with
  | nil => exact hs
  | append_singleton l c ih => rw [List.foldl_concat, State.writeR_readR, ih, launchedValue_concat]

/-- The predicates after the launch's writes to a state in which `q` reads 0. -/
theorem readP_foldl_writeP (l : List (PReg × Byte)) {s : State} {q : PReg} (hs : s.readP q = 0#8) :
    (l.foldl (fun s c => s.writeP c.1 c.2) s).readP q = launchedValue l q := by
  induction l using List.reverseRecOn with
  | nil => exact hs
  | append_singleton l c ih => rw [List.foldl_concat, State.writeP_readP, ih, launchedValue_concat]

/-- The vector registers after the launch's writes to a state in which `q` reads `n` zero words. -/
theorem readV_foldl_writeV (n : Nat) (l : List (VReg × VecVal)) {s : State} {q : VReg}
    (hs : s.readV q = List.replicate n 0#32) :
    (l.foldl (fun s c => s.writeV c.1 (fitVec n c.2)) s).readV q = launchedVector n l q := by
  induction l using List.reverseRecOn with
  | nil => exact hs
  | append_singleton l c ih => rw [List.foldl_concat, State.writeV_readV, ih, launchedVector_concat]

/-- What no single write changes, no sequence of writes changes. -/
theorem foldl_frame {α β : Type} {f : State → β} {g : State → α → State} (hg : ∀ s c, f (g s c) = f s) (l : List α)
    (s : State) : f (l.foldl g s) = f s :=
  List.foldlRecOn (motive := fun t => f t = f s) l g rfl fun t ht c _ => (hg t c).trans ht

section
variable {β : Type} {f : State → β}

theorem foldl_writeR_frame (hf : ∀ s i x, f (State.writeR s i x) = f s) (l : List (GReg × Word)) (s : State) :
    f (l.foldl (fun s c => s.writeR c.1 c.2) s) = f s :=
  foldl_frame (fun s c => hf s c.1 c.2) l s

theorem foldl_writeP_frame (hf : ∀ s i x, f (State.writeP s i x) = f s) (l : List (PReg × Byte)) (s : State) :
    f (l.foldl (fun s c => s.writeP c.1 c.2) s) = f s :=
  foldl_frame (fun s c => hf s c.1 c.2) l s

theorem foldl_writeV_frame (hf : ∀ s i x, f (State.writeV s i x) = f s) (n : Nat) (l : List (VReg × VecVal)) (s : State) :
    f (l.foldl (fun s c => s.writeV c.1 (fitVec n c.2)) s) = f s :=
  foldl_frame (fun s c => hf s c.1 (fitVec n c.2)) l s

end

namespace Launch

/-- What no write of a register changes, the launch leaves as in the blank state. -/
theorem state_frame {β : Type} {f : State → β} (hR : ∀ s i x, f (State.writeR s i x) = f s)
    (hP : ∀ s i x, f (State.writeP s i x) = f s) (hV : ∀ s i x, f (State.writeV s i x) = f s) (l : Launch) :
    f l.state = f l.blank :=
  (foldl_writeV_frame hV _ _ _).trans ((foldl_writeP_frame hP _ _).trans (foldl_writeR_frame hR _ _))

theorem state_pc (l : Launch) : l.state.pc = l.entryPc :=
  state_frame (f := State.pc) (fun _ _ _ => rfl) (fun _ _ _ => rfl) (fun _ _ _ => rfl) l

theorem state_ovf (l : Launch) : l.state.ovf = l.launchOvf.getD false :=
  state_frame (f := State.ovf) (fun _ _ _ => rfl) (fun _ _ _ => rfl) (fun _ _ _ => rfl) l

theorem state_params (l : Launch) : l.state.params = l.blank.params :=
  state_frame (f := State.params) (fun _ _ _ => rfl) (fun _ _ _ => rfl) (fun _ _ _ => rfl) l

theorem blank_readR (l : Launch) (q : GReg) : l.blank.readR q = 0#32 := Vector.getElem_replicate q.isLt

theorem blank_readP (l : Launch) (q : PReg) : l.blank.readP q = 0#8 := Vector.getElem_replicate q.isLt

theorem blank_readV (l : Launch) (q : VReg) : l.blank.readV q = List.replicate l.vlenWords 0#32 :=
  Vector.getElem_replicate q.isLt

/-- A general register holds the host's last value for it, else 0 (R38, log 1). -/
theorem state_readR (l : Launch) (q : GReg) : l.state.readR q = launchedValue l.launchR q :=
  calc l.state.readR q
    _ = _ := foldl_writeV_frame (f := (·.readR q)) (fun _ _ _ => rfl) _ _ _
    _ = _ := foldl_writeP_frame (f := (·.readR q)) (fun _ _ _ => rfl) _ _
    _ = launchedValue l.launchR q := readR_foldl_writeR l.launchR (l.blank_readR q)

/-- A predicate holds the host's last value for it, else 0 (R38, log 1). -/
theorem state_readP (l : Launch) (q : PReg) : l.state.readP q = launchedValue l.launchP q :=
  calc l.state.readP q
    _ = _ := foldl_writeV_frame (f := (·.readP q)) (fun _ _ _ => rfl) _ _ _
    _ = launchedValue l.launchP q := readP_foldl_writeP l.launchP <|
      (foldl_writeR_frame (f := (·.readP q)) (fun _ _ _ => rfl) _ _).trans (l.blank_readP q)

/-- A vector register holds the host's last value for it, fitted to `VLEN_BITS`, else zeros (R38, logs 1, 22). -/
theorem state_readV (l : Launch) (q : VReg) : l.state.readV q = launchedVector l.vlenWords l.launchV q :=
  readV_foldl_writeV l.vlenWords l.launchV <|
    calc State.readV _ q
      _ = _ := foldl_writeP_frame (f := (·.readV q)) (fun _ _ _ => rfl) _ _
      _ = _ := foldl_writeR_frame (f := (·.readV q)) (fun _ _ _ => rfl) _ _
      _ = List.replicate l.vlenWords 0#32 := l.blank_readV q

end Launch

/-- A launch that is not refused answers the launch state, at aligned addresses (R221). -/
theorem launch_next {l : Launch} {s : State} (h : launch l = .next s) :
    s = l.state ∧ aligned l.entryPc = true ∧ aligned l.haltPc = true := by
  simp only [launch] at h
  split at h
  case isTrue ha => cases h; exact ⟨rfl, by simpa using ha⟩
  case isFalse => cases h

/-- Settles O54, by the values of the launch state. -/
theorem launchStateHoldsTheGivenValues : Obligations.LaunchStateHoldsTheGivenValues := by
  intro l s h
  obtain ⟨rfl, -⟩ := launch_next h
  rw [l.state_params]
  exact ⟨l.state_pc, l.state_readR, l.state_readP, l.state_readV, l.state_ovf, rfl, rfl, rfl, rfl⟩

/-! ## The reset state -/

/-- Settles O57: with no text and no register values the launch writes nothing. -/
theorem resetIsTheDefaultLaunch : Obligations.ResetIsTheDefaultLaunch := rfl

/-- Settles O46: reset is a launch state with aligned addresses, an empty text and vector registers of `VLEN_BITS` bits. -/
theorem resetSatisfiesTheInvariant : Obligations.ResetSatisfiesTheInvariant := by
  have hlen (q : VReg) : (State.reset.readV q).length = State.reset.params.vlenWords :=
    (congrArg List.length (Launch.default.blank_readV q)).trans List.length_replicate
  exact ⟨rfl, rfl, rfl, by decide, hlen⟩

end Sys2Proof.Machine
end

section
/-! PROOFS. The program text (20_memory.md): the bytes of a fetched word, a word read back after a word is placed, the words
of a loaded text, and that no run changes the text. -/

namespace Sys2Proof.Machine

open Sys2Proof

/-! ## The bytes of a fetched word -/

/-- The bytes of the word made of four bytes are these, lowest address first (R53). -/
theorem byteOfWord_wordOfBytes (b0 b1 b2 b3 : Byte) :
    byteOfWord (wordOfBytes b0 b1 b2 b3) 0 = b0 ∧ byteOfWord (wordOfBytes b0 b1 b2 b3) 1 = b1 ∧
      byteOfWord (wordOfBytes b0 b1 b2 b3) 2 = b2 ∧ byteOfWord (wordOfBytes b0 b1 b2 b3) 3 = b3 := by
  have skip {n : Nat} (x : BitVec n) (b : Byte) (l : Nat) : (x ++ b).extractLsb' (l + 8) 8 = x.extractLsb' l 8 :=
    BitVec.extractLsb'_append_eq_of_le (Nat.le_add_left 8 l)
  refine ⟨BitVec.extractLsb'_append_eq_right, ?_, ?_, ?_⟩
  · exact (skip _ b0 0).trans BitVec.extractLsb'_append_eq_right
  · exact (skip _ b0 8).trans ((skip _ b1 0).trans BitVec.extractLsb'_append_eq_right)
  · exact (skip _ b0 16).trans ((skip _ b1 8).trans BitVec.extractLsb'_append_eq_left)

/-- When a fetch gives a word: the address is aligned and the text holds the word's four bytes from there on (R51, R53). -/
theorem Memory.fetch_eq_some {m : Memory} {a w : Word} (h : m.fetch a = some w) :
    aligned a = true ∧ m.read a.toNat = some (byteOfWord w 0) ∧ m.read (a.toNat + 1) = some (byteOfWord w 1) ∧
      m.read (a.toNat + 2) = some (byteOfWord w 2) ∧ m.read (a.toNat + 3) = some (byteOfWord w 3) := by
  simp only [Memory.fetch] at h
  split at h
  case isTrue ha =>
    split at h
    next b0 b1 b2 b3 h0 h1 h2 h3 =>
      cases h
      obtain ⟨e0, e1, e2, e3⟩ := byteOfWord_wordOfBytes b0 b1 b2 b3
      rw [h0, h1, h2, h3, e0, e1, e2, e3]
      exact ⟨ha, rfl, rfl, rfl, rfl⟩
    next => cases h
  case isFalse => cases h

/-- Settles O59, by what a fetch that gives a word found. -/
theorem fetchedWordsAreLittleEndian : Obligations.FetchedWordsAreLittleEndian := by
  intro m a w h
  obtain ⟨ha, hbytes⟩ := Memory.fetch_eq_some h
  exact ⟨(aligned_iff a).1 ha, hbytes⟩

/-! ## Placing a word -/

/-- A word placed at an aligned address changes no byte outside its four. -/
theorem Memory.read_writeWord_other (m : Memory) {a : Word} (w : Word) (ha : aligned a = true) {n : Nat}
    (hn : n < a.toNat ∨ a.toNat + 4 ≤ n) : (m.writeWord a w).read n = m.read n := by
  have h4 := (aligned_iff a).1 ha
  have hlt := a.isLt
  have hne (k : Nat) (hk : k < 4) : (a + BitVec.ofNat 32 k).toNat ≠ n := by
    rw [BitVec.toNat_add, BitVec.toNat_ofNat]
    omega
  have h0 : a.toNat ≠ n := by omega
  simp only [Memory.writeWord, Memory.read_write, if_neg h0, if_neg (hne 1 (by decide)), if_neg (hne 2 (by decide)),
    if_neg (hne 3 (by decide))]

/-- A word placed at an aligned address changes the word at no other address: aligned words do not overlap (R54). -/
theorem Memory.fetch_writeWord_other (m : Memory) {a b : Word} (w : Word) (ha : aligned a = true) (hab : b ≠ a) :
    (m.writeWord a w).fetch b = m.fetch b := by
  by_cases hb : aligned b = true
  · have h4a := (aligned_iff a).1 ha
    have h4b := (aligned_iff b).1 hb
    have hne : b.toNat ≠ a.toNat := fun e => hab (BitVec.eq_of_toNat_eq e)
    have hread (k : Nat) (hk : k < 4) : (m.writeWord a w).read (b.toNat + k) = m.read (b.toNat + k) :=
      m.read_writeWord_other w ha (by omega)
    have hread0 := hread 0 (by decide)
    rw [Nat.add_zero] at hread0
    simp only [Memory.fetch, hread0, hread 1 (by decide), hread 2 (by decide), hread 3 (by decide)]
  · simp only [Memory.fetch, if_neg hb]

/-! ## The loaded text -/

/-- A text with one more word, at an aligned address, holds that word there and is else as before. -/
theorem fetch_loadText_concat (cs : List (Word × Word)) {c : Word × Word} (hc : aligned c.1 = true) (a : Word) :
    (loadText (cs ++ [c])).fetch a = if a = c.1 then some c.2 else (loadText cs).fetch a := by
  rw [loadText, List.foldl_concat, ← loadText]
  split
  case isTrue h => rw [h, Memory.fetch_writeWord _ _ _ hc]
  case isFalse h => exact Memory.fetch_writeWord_other _ c.2 hc h

/-- Outside the listed addresses a loaded text has no word (R51). -/
theorem fetch_loadText_of_not_mem {cs : List (Word × Word)} (hal : ∀ c ∈ cs, aligned c.1 = true) {a : Word}
    (ha : a ∉ cs.map Prod.fst) : (loadText cs).fetch a = none := by
  induction cs using List.reverseRecOn with
  | nil => exact ite_self none
  | append_singleton cs c ih =>
    rw [List.forall_mem_append, List.forall_mem_singleton] at hal
    rw [List.map_append, List.mem_append, not_or, List.map_singleton, List.mem_singleton] at ha
    rw [fetch_loadText_concat cs hal.2, if_neg ha.2, ih hal.1 ha.1]

/-- At a listed address a loaded text has the word listed, when no address is listed twice (R51). -/
theorem fetch_loadText_of_mem {cs : List (Word × Word)} (hal : ∀ c ∈ cs, aligned c.1 = true)
    (hnd : (cs.map Prod.fst).Nodup) {c : Word × Word} (hc : c ∈ cs) : (loadText cs).fetch c.1 = some c.2 := by
  induction cs using List.reverseRecOn with
  | nil => cases hc
  | append_singleton cs d ih =>
    rw [List.forall_mem_append, List.forall_mem_singleton] at hal
    rw [List.map_append, List.map_singleton, ← List.concat_eq_append, List.nodup_concat] at hnd
    rw [fetch_loadText_concat cs hal.2]
    obtain hc | hc := List.mem_append.1 hc
    · have hne : c.1 ≠ d.1 := fun e => hnd.1 (e ▸ List.mem_map_of_mem hc)
      rw [if_neg hne, ih hal.1 hnd.2 hc]
    · rw [List.mem_singleton.1 hc, if_pos rfl]

/-- Settles O55, by induction on the words in the order they are loaded. -/
theorem loadedTextIsFetched : Obligations.LoadedTextIsFetched :=
  fun _ hal hnd => ⟨fun _ hc => fetch_loadText_of_mem hal hnd hc, fun _ ha => fetch_loadText_of_not_mem hal ha⟩

/-! ## The text along a run -/

/-- No step changes the parameters of the run (R37). -/
theorem params_of_step {s t : State} (h : step s = .next t) : t.params = s.params := by
  obtain rfl | ⟨i, hi, -⟩ := step_shape h
  · rfl
  · exact hi.params_eq

/-- No run changes its parameters (R37). -/
theorem Reaches.params_eq {k : Nat} {s t : State} (h : Reaches k s t) : t.params = s.params :=
  h.keeps (P := fun u => u.params = s.params) (fun _ _ hu hstep => (params_of_step hstep).trans hu) rfl

/-- Settles O48: the text is one of the parameters (R60). -/
theorem programTextIsImmutable : Obligations.ProgramTextIsImmutable :=
  fun _ _ _ h => ⟨h.params_eq, fun a => congrArg (·.text.read a) h.params_eq⟩

end Sys2Proof.Machine
end

section
/-! PROOFS. The encoding (30_encoding.md): where an operand field stands in a word, the row that a word selects, the row that
holds an encoded instruction, and with them the statements of this family. -/

namespace Sys2Proof

open Laws Machine

/-! ## Fields of a word -/

/-- A field placed at bit `l` is read back there. -/
theorem extractLsb'_place_self {k : Nat} (x : BitVec k) (l : Nat) (h : l + k ≤ 32) :
    (x.setWidth 32 <<< l).extractLsb' l k = x := by
  apply BitVec.eq_of_getLsbD_eq
  intro i hi
  have hlt : l + i < 32 := by omega
  simp [hi, hlt]

/-- A field placed at bit `l` leaves the bits below and above it 0. -/
theorem extractLsb'_place_other {k : Nat} (x : BitVec k) (l start len : Nat) (h : l + k ≤ start ∨ start + len ≤ l) :
    (x.setWidth 32 <<< l).extractLsb' start len = 0#len := by
  apply BitVec.eq_of_getLsbD_eq
  intro i hi
  simp only [BitVec.getLsbD_extractLsb', BitVec.getLsbD_shiftLeft, BitVec.getLsbD_setWidth, BitVec.getLsbD_zero]
  rcases h with h | h
  · rw [BitVec.getLsbD_of_ge x (start + i - l) (by omega)]
    simp
  · have hlt : start + i < l := by omega
    simp [hlt]

/-- A field placed within the bits of `b` has no bit in common with a word that has none in common with `b`. -/
theorem place_and_eq_zero {b c : Word} (hbc : b &&& c = 0#32) {k : Nat} (x : BitVec k) (l : Nat)
    (hb : ((BitVec.allOnes k).setWidth 32 <<< l) &&& b = (BitVec.allOnes k).setWidth 32 <<< l) :
    (x.setWidth 32 <<< l) &&& c = 0#32 := by
  have hx : x.setWidth 32 <<< l = x.setWidth 32 <<< l &&& (BitVec.allOnes k).setWidth 32 <<< l := by
    rw [← BitVec.shiftLeft_and_distrib, ← BitVec.setWidth_and, BitVec.and_allOnes]
  rw [hx, ← hb, BitVec.and_assoc, BitVec.and_assoc, hbc, BitVec.and_zero, BitVec.and_zero]

/-- A word within a mask is 0 in every field outside the mask. -/
theorem extractLsb'_eq_zero_of_and_eq {x mask : Word} (hx : x &&& mask = x) {start len : Nat}
    (h : mask.extractLsb' start len = 0#len) : x.extractLsb' start len = 0#len := by
  rw [← hx, BitVec.extractLsb'_and, h, BitVec.and_zero]

/-- Words that agree on the bits of `c` have the same fields within `c`. -/
theorem extractLsb'_congr {w w' c : Word} (hw : w' &&& c = w &&& c) {start len : Nat}
    (h : c.extractLsb' start len = BitVec.allOnes len) : w'.extractLsb' start len = w.extractLsb' start len := by
  have hx := congrArg (BitVec.extractLsb' start len) hw
  rwa [BitVec.extractLsb'_and, BitVec.extractLsb'_and, h, BitVec.and_allOnes, BitVec.and_allOnes] at hx

/-- Words that agree on the bits of `c` agree on every mask within `c`. -/
theorem and_congr_of_subset {w w' c mask : Word} (hw : w' &&& c = w &&& c) (h : mask &&& c = mask) :
    w' &&& mask = w &&& mask := by
  rw [← h, BitVec.and_comm mask c, ← BitVec.and_assoc, ← BitVec.and_assoc, hw]

/-! ## The values of the immediates (R79, R82, R83) -/

/-- The value of a field: its bits, most significant first. -/
theorem toNat_extractLsb' (w : Word) (l k : Nat) : (w.extractLsb' l k).toNat = w.toNat / 2 ^ l % 2 ^ k := by
  rw [BitVec.extractLsb'_toNat, Nat.shiftRight_eq_div_pow]

/-- The two's-complement value of a field, by its top bit. -/
theorem toInt_extractLsb' (w : Word) (l k : Nat) :
    (w.extractLsb' l (k + 1)).toInt =
      (w.toNat / 2 ^ l % 2 ^ (k + 1) : Nat) - (if w.toNat / 2 ^ (l + k) % 2 = 1 then 2 ^ (k + 1) else 0) := by
  have hmsb : (w.extractLsb' l (k + 1)).msb = decide (w.toNat / 2 ^ (l + k) % 2 = 1) := by
    rw [BitVec.msb_eq_getLsbD_last, BitVec.getLsbD_extractLsb', BitVec.getLsbD, Nat.testBit_eq_decide_div_mod_eq]
    simp
  rw [BitVec.toInt_eq_msb_cond, hmsb, toNat_extractLsb']
  by_cases h : w.toNat / 2 ^ (l + k) % 2 = 1 <;> simp [h]

theorem fieldR9_eq (w : Word) :
    fieldR9 w = 4 * (128 * (w.toNat / 2 ^ 20 % 4) + w.toNat / 2 % 128 : Nat) -
      (if w.toNat / 2 ^ 21 % 2 = 1 then 2048 else 0) := by
  rw [fieldR9, BitVec.toInt_append, toInt_extractLsb' w 20 1, toNat_extractLsb']
  simp only [Nat.reduceBEq, Bool.false_eq_true, if_false]
  split <;> omega

theorem fieldR13_eq (w : Word) :
    fieldR13 w = 4 * (4096 * (w.toNat / 2 ^ 21 % 2) + 2048 * (w.toNat / 2 ^ 13 % 2) + w.toNat / 2 % 2048 : Nat) -
      (if w.toNat / 2 ^ 21 % 2 = 1 then 32768 else 0) := by
  rw [fieldR13, BitVec.toInt_append, BitVec.toInt_append, toInt_extractLsb' w 21 0, toNat_extractLsb', toNat_extractLsb']
  simp only [Nat.reduceAdd, Nat.reduceBEq, Bool.false_eq_true, if_false]
  split <;> omega

theorem fieldS16_eq (w : Word) :
    fieldS16 w = (512 * (w.toNat / 2 ^ 21 % 128) + w.toNat / 2 ^ 5 % 512 : Nat) -
      (if w.toNat / 2 ^ 27 % 2 = 1 then 65536 else 0) := by
  rw [fieldS16, BitVec.toInt_append, toInt_extractLsb' w 21 6, toNat_extractLsb']
  simp only [Nat.reduceBEq, Bool.false_eq_true, if_false]
  split <;> omega

/-- Settles O8, by the values of the parts of each immediate. -/
theorem immediateFieldsHaveTheirSignedValue : Obligations.ImmediateFieldsHaveTheirSignedValue := fun w =>
  ⟨fieldR9_eq w, fieldR13_eq w, fieldS16_eq w, r9Ok_fieldR9 w, r13Ok_fieldR13 w, s16Ok_fieldS16 w⟩

/-- The parts of `imm9` make it up again (R79). -/
theorem imm9_parts (imm : BitVec 9) : imm.extractLsb' 7 2 ++ imm.extractLsb' 0 7 = imm :=
  (BitVec.extractLsb'_append_extractLsb'_eq_extractLsb' rfl).trans BitVec.extractLsb'_eq_self

/-- The parts of `imm13` make it up again (R82). -/
theorem imm13_parts (imm : BitVec 13) : imm.extractLsb' 12 1 ++ imm.extractLsb' 11 1 ++ imm.extractLsb' 0 11 = imm := by
  have htop : imm.extractLsb' 12 1 ++ imm.extractLsb' 11 1 = imm.extractLsb' 11 2 :=
    BitVec.extractLsb'_append_extractLsb'_eq_extractLsb' rfl
  rw [htop]
  exact (BitVec.extractLsb'_append_extractLsb'_eq_extractLsb' rfl).trans BitVec.extractLsb'_eq_self

/-- The parts of `imm16` make it up again (R83). -/
theorem imm16_parts (imm : BitVec 16) : imm.extractLsb' 9 7 ++ imm.extractLsb' 0 9 = imm :=
  (BitVec.extractLsb'_append_extractLsb'_eq_extractLsb' rfl).trans BitVec.extractLsb'_eq_self

/-- An offset that `#r9:2` can express is 4 times its immediate (R79). -/
theorem toInt_imm9 {off : Int} (h : r9Ok off = true) : (BitVec.ofInt 9 (off / 4)).toInt * 4 = off := by
  simp only [r9Ok, Bool.and_eq_true, decide_eq_true_eq] at h
  rw [BitVec.toInt_ofInt_eq_self (by decide) (by omega) (by omega)]
  omega

/-- An offset that `#r13:2` can express is 4 times its immediate (R82). -/
theorem toInt_imm13 {off : Int} (h : r13Ok off = true) : (BitVec.ofInt 13 (off / 4)).toInt * 4 = off := by
  simp only [r13Ok, Bool.and_eq_true, decide_eq_true_eq] at h
  rw [BitVec.toInt_ofInt_eq_self (by decide) (by omega) (by omega)]
  omega

/-- A value that `#s16` can express is its immediate (R83). -/
theorem toInt_imm16 {s16 : Int} (h : s16Ok s16 = true) : (BitVec.ofInt 16 s16).toInt = s16 := by
  simp only [s16Ok, Bool.and_eq_true, decide_eq_true_eq] at h
  exact BitVec.toInt_ofInt_eq_self (by decide) (by omega) (by omega)

/-- A value that `#U5` can express is its field (R80). -/
theorem toNat_ofNat_five {u : Nat} (h : u5Ok u = true) : (BitVec.ofNat 5 u).toNat = u :=
  (BitVec.toNat_ofNat u 5).trans (Nat.mod_eq_of_lt (of_decide_eq_true h))

/-! ## The registers of the 4-bit field (R80) -/

theorem val_cjReg (b : BitVec 4) : (cjReg b).val = if b.toNat < 8 then b.toNat else b.toNat + 8 := by
  have hb := b.isLt
  rw [cjReg]
  split <;> exact Nat.mod_eq_of_lt (by omega)

theorem cjRegOk_iff (r : GReg) : cjRegOk r = true ↔ r.val < 8 ∨ (16 ≤ r.val ∧ r.val ≤ 23) := by
  simp only [cjRegOk, Bool.or_eq_true, Bool.and_eq_true, decide_eq_true_eq]
  omega

/-- Settles O9: the registers named are those the field of a register reads back. -/
theorem compareRegisterFieldNamesR0ToR7AndR16ToR23 : Obligations.CompareRegisterFieldNamesR0ToR7AndR16ToR23 := by
  refine ⟨val_cjReg, fun r => ?_⟩
  rw [← cjRegOk_iff]
  constructor
  · rintro ⟨b, rfl⟩
    exact cjRegOk_cjReg b
  · exact fun h => ⟨cjField r, cjReg_cjField r h⟩

/-! ## The row a word selects (R77, R86) -/

theorem Row.selects_iff {r : Row} {w : Word} : r.selects w = true ↔ w &&& r.mask = r.matchBits := beq_iff_eq

theorem decodeRow_of_parse_ne {w : Word} (hp : fieldParse w ≠ 3#2) : decodeRow w = .error (.parseNotSingle w) := by
  rw [decodeRow, if_neg hp]

theorem decodeRow_of_no_row {w : Word} (hp : fieldParse w = 3#2) (h : ∀ r ∈ rows, r.selects w = false) :
    decodeRow w = .error (.noSuchEncoding w) := by
  have hfind : rows.find? (fun r => r.selects w) = none := List.find?_eq_none.2 fun r hr => by simp [h r hr]
  rw [decodeRow, if_pos hp, hfind]

theorem decodeRow_of_selects {w : Word} {r : Row} (hp : fieldParse w = 3#2) (hr : r ∈ rows) (hs : r.selects w = true) :
    decodeRow w = .ok r := by
  rw [decodeRow, if_pos hp, find_of_disjoint rows_disjoint hr hs]

theorem decode_of_decodeRow_ok {w : Word} {r : Row} (h : decodeRow w = .ok r) : decode w = .ok (r.build w) := by
  rw [decode, h]

theorem decode_of_decodeRow_error {w : Word} {e : DecodeError} (h : decodeRow w = .error e) : decode w = .error e := by
  rw [decode, h]

/-- A word selects at most one row of the table (R86). -/
theorem eq_of_selects {w : Word} {r q : Row} (hr : r ∈ rows) (hq : q ∈ rows) (hrs : r.selects w = true)
    (hqs : q.selects w = true) : q = r :=
  Option.some_inj.1 ((find_of_disjoint rows_disjoint hq hqs).symm.trans (find_of_disjoint rows_disjoint hr hrs))

/-- The row with other fixed bits in place of its own: a class of words, as a row. -/
def Row.withBits (r : Row) (m mask : Word) : Row := { r with matchBits := m, mask := mask }

/-- Words with given fixed bits select no row when every row differs from those bits in one that both fix. -/
theorem decodeRow_of_disjoint {w m mask : Word} (hd : ∀ r ∈ rows, (r.withBits m mask).disjoint r = true)
    (hp : fieldParse w = 3#2) (hw : w &&& mask = m) : decodeRow w = .error (.noSuchEncoding w) :=
  decodeRow_of_no_row hp fun r hr => Row.not_selects_of_disjoint (hd r hr) (Row.selects_iff.2 hw)

/-- The unassigned class of R84 and a constant extender (R78) are no rows. -/
theorem decodeRow_of_unassigned {w : Word} (hp : fieldParse w = 3#2)
    (hw : w &&& 0xFD800300#32 = 0x11800200#32 ∨ w &&& 0xF0000000#32 = 0x00000000#32) :
    decodeRow w = .error (.noSuchEncoding w) := by
  obtain hw | hw := hw
  · exact decodeRow_of_disjoint (by decide) hp hw
  · exact decodeRow_of_disjoint (by decide) hp hw

end Sys2Proof

namespace Sys2Proof.Machine

open Sys2Proof

/-! ## A step by the row of the word at `pc` (R86, R202) -/

theorem final_eq_false_iff {s : State} : s.final = false ↔ s.pc ≠ s.params.haltPc := by
  rw [State.final, beq_eq_false_iff_ne]

theorem admits_iff {p : Params} {r : Row} : admits p r = true ↔ r.provenance = .source ∨ p.admitUnsourced = true := by
  unfold admits
  cases r.provenance <;> simp

theorem admits_eq_false {p : Params} {r : Row} (hr : r.provenance = .generalKnowledge) (hp : p.admitUnsourced = false) :
    admits p r = false := by
  rw [admits, hr, hp]

theorem isUnsourced_of_decodeRow {w : Word} {r : Row} (h : decodeRow w = .ok r) :
    isUnsourced w = (r.provenance == .generalKnowledge) := by
  rw [isUnsourced, h]

section
variable {s : State} {w : Word} {r : Row} (hf : s.final = false) (hw : s.params.text.fetch s.pc = some w)
include hf hw

theorem step_of_parseNotSingle (h : decodeRow w = .error (.parseNotSingle w)) : step s = .refused (.parseNotSingle w) := by
  simp [step, hf, fetchInstr, hw, h]

theorem step_of_noSuchEncoding (h : decodeRow w = .error (.noSuchEncoding w)) : step s = .refused (.noSuchEncoding w) := by
  simp [step, hf, fetchInstr, hw, h]

theorem step_of_not_admits (h : decodeRow w = .ok r) (ha : admits s.params r = false) :
    step s = .refused (.unsourcedEncoding w) := by
  simp [step, hf, fetchInstr, hw, h, ha]

theorem step_of_admits (h : decodeRow w = .ok r) (ha : admits s.params r = true) : step s = exec (r.build w) s := by
  simp [step, hf, fetchInstr, hw, h, ha]

end

/-- Settles O2: the row that gave the instruction is admitted. -/
theorem stepRunsTheDecodedInstruction : Obligations.StepRunsTheDecodedInstruction := by
  intro s w i hpc hw hi hadm
  obtain ⟨r, hr, rfl⟩ := decode_ok hi
  refine step_of_admits (final_eq_false_iff.2 hpc) hw hr (admits_iff.2 ?_)
  obtain hadm | hsrc := hadm
  · exact .inr hadm
  · rw [isUnsourced_of_decodeRow hr] at hsrc
    cases hpv : r.provenance with
    | source => exact .inl rfl
    | generalKnowledge => simp [hpv] at hsrc

/-- Settles O5, by the disjointness of the rows. -/
theorem decodeProcedureSelectsTheUniqueRow : Obligations.DecodeProcedureSelectsTheUniqueRow := by
  intro w
  have hnone (hp : fieldParse w = 3#2) (h : ∀ r ∈ rows, w &&& r.mask ≠ r.matchBits) :
      decodeRow w = .error (.noSuchEncoding w) :=
    decodeRow_of_no_row hp fun r hr => beq_eq_false_iff_ne.2 (h r hr)
  have hsome (hp : fieldParse w = 3#2) (r : Row) (hr : r ∈ rows) (h : w &&& r.mask = r.matchBits) : decodeRow w = .ok r :=
    decodeRow_of_selects hp hr (Row.selects_iff.2 h)
  refine ⟨decodeRow_of_parse_ne, hnone, fun hp r hr h => ⟨?_, hsome hp r hr h, decode_of_decodeRow_ok (hsome hp r hr h)⟩,
    fun s hf hw => ⟨?_, ?_, fun hp r hr h => ⟨?_, ?_⟩⟩⟩
  · exact fun q hq h' => eq_of_selects hr hq (Row.selects_iff.2 h) (Row.selects_iff.2 h')
  · exact fun hp => step_of_parseNotSingle hf hw (decodeRow_of_parse_ne hp)
  · exact fun hp h => step_of_noSuchEncoding hf hw (hnone hp h)
  · exact fun hpv hadm => step_of_not_admits hf hw (hsome hp r hr h) (admits_eq_false hpv hadm)
  · exact fun hadm => step_of_admits hf hw (hsome hp r hr h) (admits_iff.2 hadm)

/-- Settles O10: neither class has a row. -/
theorem unassignedWordsAreNoEncoding : Obligations.UnassignedWordsAreNoEncoding := fun _ hp h =>
  have hrow := decodeRow_of_unassigned hp h
  ⟨decode_of_decodeRow_error hrow, fun _ hf hw => step_of_noSuchEncoding hf hw hrow⟩

end Sys2Proof.Machine

namespace Sys2Proof

open Laws Machine

/-! ## The row of an instruction -/

/-- `w` is the word that the row's format makes of the row's fixed bits and the operands of `i`, which is well formed when
they are ones the fields can express (R223). -/
inductive Row.Writes : Row → Instr → Word → Prop where
  | n1 {asm pv m f} (rs off) (hwf : (f rs off).wf = (cjRegOk rs && r9Ok off)) :
      Writes (rowN1 asm pv m f) (f rs off) (wordN1 m rs off)
  | u5 {asm pv m f} (rs u off) (hwf : (f rs u off).wf = (cjRegOk rs && u5Ok u && r9Ok off)) :
      Writes (rowU5 asm pv m f) (f rs u off) (wordU5 m rs u off)
  | rr {asm pv m f} (rs rt off) (hwf : (f rs rt off).wf = (cjRegOk rs && cjRegOk rt && r9Ok off)) :
      Writes (rowRR asm pv m f) (f rs rt off) (wordRR m rs rt off)
  | jr {asm pv m f} (rs off) (hwf : (f rs off).wf = r13Ok off) :
      Writes (rowJR asm pv m f) (f rs off) (wordJR m rs off)
  | addi {asm pv m f} (rd rs s16) (hwf : (f rd rs s16).wf = s16Ok s16) :
      Writes (rowAddi asm pv m f) (f rd rs s16) (wordAddi m rd rs s16)
  | rrr {asm pv m f} (rd rs rt) : Writes (rowRrr asm pv m f) (f rd rs rt) (wordRrr m rd rs rt)

/-- The instruction's own row, that of its place in the table, has its format and writes its word. -/
def Instr.HasRow (i : Instr) : Prop :=
  ∃ r w, rows[i.ctorIdx]? = some r ∧ r.format = i.format ∧ encode i = some w ∧ r.Writes i w

theorem hasRow_of_cjN1 {i : Instr} (hf : i.format = .cjN1) : i.HasRow := by
  cases i <;> cases hf <;> exact ⟨_, _, rfl, rfl, rfl, .n1 _ _ rfl⟩

theorem hasRow_of_cjU5 {i : Instr} (hf : i.format = .cjU5) : i.HasRow := by
  cases i <;> cases hf <;> exact ⟨_, _, rfl, rfl, rfl, .u5 _ _ _ rfl⟩

theorem hasRow_of_cjRR {i : Instr} (hf : i.format = .cjRR) : i.HasRow := by
  cases i <;> cases hf <;> exact ⟨_, _, rfl, rfl, rfl, .rr _ _ _ rfl⟩

theorem hasRow_of_jr {i : Instr} (hf : i.format = .jr) : i.HasRow := by
  cases i <;> cases hf <;> exact ⟨_, _, rfl, rfl, rfl, .jr _ _ rfl⟩

theorem hasRow_of_addi {i : Instr} (hf : i.format = .addi) : i.HasRow := by
  cases i <;> cases hf
  exact ⟨_, _, rfl, rfl, rfl, .addi _ _ _ rfl⟩

theorem hasRow_of_alu32Rrr {i : Instr} (hf : i.format = .alu32Rrr) : i.HasRow := by
  cases i <;> cases hf <;> exact ⟨_, _, rfl, rfl, rfl, .rrr _ _ _⟩

/-- Every instruction that is no `vasr` has a row of the table (R85). -/
theorem hasRow_of_ne_hvxUnknown {i : Instr} (hf : i.format ≠ .hvxUnknown) : i.HasRow := by
  cases h : i.format with
  | cjN1 => exact hasRow_of_cjN1 h
  | cjU5 => exact hasRow_of_cjU5 h
  | cjRR => exact hasRow_of_cjRR h
  | jr => exact hasRow_of_jr h
  | addi => exact hasRow_of_addi h
  | alu32Rrr => exact hasRow_of_alu32Rrr h
  | hvxUnknown => exact absurd h hf

/-- No `vasr` has a word (R85). -/
theorem encode_of_hvxUnknown {i : Instr} (hf : i.format = .hvxUnknown) : encode i = none := by
  cases i <;> cases hf <;> rfl

theorem encode_eq_none_iff (i : Instr) : encode i = none ↔ i.format = .hvxUnknown := by
  refine ⟨fun h => ?_, encode_of_hvxUnknown⟩
  by_contra hf
  obtain ⟨_, w, -, -, hw, -⟩ := hasRow_of_ne_hvxUnknown hf
  exact absurd (h.symm.trans hw) (Option.some_ne_none w).symm

/-- What an encoded word is: the word that a row of the table writes. -/
theorem encode_eq_some {i : Instr} {w : Word} (h : encode i = some w) :
    ∃ r ∈ rows, r.format = i.format ∧ r.Writes i w := by
  have hf : i.format ≠ .hvxUnknown := fun hf => absurd ((encode_of_hvxUnknown hf).symm.trans h) (Option.some_ne_none w).symm
  obtain ⟨r, w', hr, hfmt, hw, hwr⟩ := hasRow_of_ne_hvxUnknown hf
  cases h.symm.trans hw
  exact ⟨r, List.mem_of_getElem? hr, hfmt, hwr⟩

/-- Settles O4: an instruction has a row exactly when it is no `vasr`, and a row builds none. -/
theorem onlyVasrHasNoEncoding : Obligations.OnlyVasrHasNoEncoding := by
  refine ⟨encode_eq_none_iff, fun w i h => ?_⟩
  obtain ⟨r, hr, rfl⟩ := decode_ok h
  exact (decodeRow_sound hr w).2

/-! ## The bits of an encoded word -/

/-- The bits that a format gives to operands (R75, R76, R81, R82, R83). -/
def operandBits : Format → Word
  | .cjN1 => 0x003F00FE#32
  | .cjU5 => 0x003F1FFE#32
  | .cjRR => 0x003F0FFE#32
  | .jr => 0x003F2FFE#32
  | .addi => 0x0FFF3FFF#32
  | .alu32Rrr => 0x001F1F1F#32
  | .hvxUnknown => 0#32

/-- The fixed bits of a row stand within its mask (R77). -/
theorem rows_match_and_mask : ∀ r ∈ rows, r.matchBits &&& r.mask = r.matchBits := by decide

/-- No row fixes a Parse bit (R72). -/
theorem rows_parse_match : ∀ r ∈ rows, fieldParse r.matchBits = 0#2 := by decide

/-- The mask of a row holds all of its fixed bits and no Parse bit. -/
theorem rows_fixed_and_mask : ∀ r ∈ rows, (r.matchBits ||| bitsParse) &&& r.mask = r.matchBits := by decide

/-- No operand stands in the mask of a row. -/
theorem rows_operandBits_and_mask : ∀ r ∈ rows, operandBits r.format &&& r.mask = 0#32 := by decide

/-- The mask of a row holds no `-` bit (R74). -/
theorem rows_mask_and_definedBits : ∀ r ∈ rows, r.mask &&& definedBits r.format = r.mask := by decide

/-- No row fixes a `-` bit (R74). -/
theorem rows_fixed_and_dash : ∀ r ∈ rows, (r.matchBits ||| bitsParse) &&& ~~~definedBits r.format = 0#32 := by decide

/-- No operand stands in a `-` bit (R74). -/
theorem operandBits_and_dash (f : Format) : operandBits f &&& ~~~definedBits f = 0#32 := by cases f <;> rfl

theorem bitsRd_eq_place (r : GReg) : bitsRd r = (BitVec.ofNat 5 r.val).setWidth 32 <<< 0 := (BitVec.shiftLeft_zero _).symm

section
variable (m : Word) {c : Word}

theorem wordN1_and (rs : GReg) (off : Int) (hc : operandBits .cjN1 &&& c = 0#32) :
    wordN1 m rs off &&& c = (m ||| bitsParse) &&& c := by
  simp (disch := decide) only [wordN1, bitsS4, bitsR9, placeR9, BitVec.and_or_distrib_right, place_and_eq_zero hc, BitVec.or_zero]

theorem wordU5_and (rs : GReg) (u : Nat) (off : Int) (hc : operandBits .cjU5 &&& c = 0#32) :
    wordU5 m rs u off &&& c = (m ||| bitsParse) &&& c := by
  simp (disch := decide) only [wordU5, bitsS4, bitsU5, bitsR9, placeR9, BitVec.and_or_distrib_right, place_and_eq_zero hc,
    BitVec.or_zero]

theorem wordRR_and (rs rt : GReg) (off : Int) (hc : operandBits .cjRR &&& c = 0#32) :
    wordRR m rs rt off &&& c = (m ||| bitsParse) &&& c := by
  simp (disch := decide) only [wordRR, bitsS4, bitsT4, bitsR9, placeR9, BitVec.and_or_distrib_right, place_and_eq_zero hc,
    BitVec.or_zero]

theorem wordJR_and (rs : GReg) (off : Int) (hc : operandBits .jr &&& c = 0#32) :
    wordJR m rs off &&& c = (m ||| bitsParse) &&& c := by
  simp (disch := decide) only [wordJR, bitsRs, bitsR13, placeR13, BitVec.and_or_distrib_right, place_and_eq_zero hc,
    BitVec.or_zero]

theorem wordAddi_and (rd rs : GReg) (s16 : Int) (hc : operandBits .addi &&& c = 0#32) :
    wordAddi m rd rs s16 &&& c = (m ||| bitsParse) &&& c := by
  simp (disch := decide) only [wordAddi, bitsRs, bitsS16, placeS16, bitsRd_eq_place, BitVec.and_or_distrib_right,
    place_and_eq_zero hc, BitVec.or_zero]

theorem wordRrr_and (rd rs rt : GReg) (hc : operandBits .alu32Rrr &&& c = 0#32) :
    wordRrr m rd rs rt &&& c = (m ||| bitsParse) &&& c := by
  simp (disch := decide) only [wordRrr, bitsRs, bitsRt, bitsRd_eq_place, BitVec.and_or_distrib_right, place_and_eq_zero hc,
    BitVec.or_zero]

end

/-- Outside the operand bits an encoded word holds the fixed bits and Parse. -/
theorem Row.Writes.and_eq {r : Row} {i : Instr} {w : Word} (h : r.Writes i w) {c : Word}
    (hc : operandBits r.format &&& c = 0#32) : w &&& c = (r.matchBits ||| bitsParse) &&& c := by
  cases h with
  | n1 rs off => exact wordN1_and _ rs off hc
  | u5 rs u off => exact wordU5_and _ rs u off hc
  | rr rs rt off => exact wordRR_and _ rs rt off hc
  | jr rs off => exact wordJR_and _ rs off hc
  | addi rd rs s16 => exact wordAddi_and _ rd rs s16 hc
  | rrr rd rs rt => exact wordRrr_and _ rd rs rt hc

/-- An encoded word selects its row (R77). -/
theorem Row.Writes.selects {r : Row} {i : Instr} {w : Word} (h : r.Writes i w) (hr : r ∈ rows) : r.selects w = true := by
  rw [Row.selects_iff, h.and_eq (rows_operandBits_and_mask r hr), rows_fixed_and_mask r hr]

/-- An encoded word has Parse = `11` (R72). -/
theorem Row.Writes.fieldParse_eq {r : Row} {i : Instr} {w : Word} (h : r.Writes i w) (hr : r ∈ rows) :
    fieldParse w = 3#2 := by
  have hm := rows_parse_match r hr
  cases h with
  | n1 rs off => exact ParseBits.n1 _ rs off hm _ rfl
  | u5 rs u off => exact ParseBits.u5 _ rs u off hm _ rfl
  | rr rs rt off => exact ParseBits.rr _ rs rt off hm _ rfl
  | jr rs off => exact ParseBits.jr _ rs off hm _ rfl
  | addi rd rs s16 => exact ParseBits.addi _ rd rs s16 hm _ rfl
  | rrr rd rs rt => exact ParseBits.rrr _ rd rs rt hm _ rfl

/-! ## Reading back the operands of an encoded word -/

theorem bitsParse_and_self : bitsParse &&& bitsParse = bitsParse := rfl

section
variable {m : Word}

theorem build_wordN1 {asm pv f} (hm : m &&& 0xFFC02300#32 = m) {rs : GReg} {off : Int}
    (h : (cjRegOk rs && r9Ok off) = true) : (rowN1 asm pv m f).build (wordN1 m rs off) = f rs off := by
  rw [Bool.and_eq_true] at h
  obtain ⟨hrs, hoff⟩ := h
  simp (disch := decide) only [rowN1, fieldS4, fieldR9, wordN1, bitsS4, bitsR9, placeR9, BitVec.extractLsb'_or,
    extractLsb'_place_self, extractLsb'_place_other, extractLsb'_eq_zero_of_and_eq hm,
    extractLsb'_eq_zero_of_and_eq bitsParse_and_self, BitVec.or_zero, BitVec.zero_or, imm9_parts, cjReg_cjField rs hrs,
    toInt_imm9 hoff]

theorem build_wordU5 {asm pv f} (hm : m &&& 0xFFC02000#32 = m) {rs : GReg} {u : Nat} {off : Int}
    (h : (cjRegOk rs && u5Ok u && r9Ok off) = true) : (rowU5 asm pv m f).build (wordU5 m rs u off) = f rs u off := by
  simp only [Bool.and_eq_true] at h
  obtain ⟨⟨hrs, hu⟩, hoff⟩ := h
  simp (disch := decide) only [rowU5, fieldS4, fieldU5, fieldR9, wordU5, bitsS4, bitsU5, bitsR9, placeR9, BitVec.extractLsb'_or,
    extractLsb'_place_self, extractLsb'_place_other, extractLsb'_eq_zero_of_and_eq hm,
    extractLsb'_eq_zero_of_and_eq bitsParse_and_self, BitVec.or_zero, BitVec.zero_or, imm9_parts, cjReg_cjField rs hrs,
    toNat_ofNat_five hu, toInt_imm9 hoff]

theorem build_wordRR {asm pv f} (hm : m &&& 0xFFC03000#32 = m) {rs rt : GReg} {off : Int}
    (h : (cjRegOk rs && cjRegOk rt && r9Ok off) = true) : (rowRR asm pv m f).build (wordRR m rs rt off) = f rs rt off := by
  simp only [Bool.and_eq_true] at h
  obtain ⟨⟨hrs, hrt⟩, hoff⟩ := h
  simp (disch := decide) only [rowRR, fieldS4, fieldT4, fieldR9, wordRR, bitsS4, bitsT4, bitsR9, placeR9, BitVec.extractLsb'_or,
    extractLsb'_place_self, extractLsb'_place_other, extractLsb'_eq_zero_of_and_eq hm,
    extractLsb'_eq_zero_of_and_eq bitsParse_and_self, BitVec.or_zero, BitVec.zero_or, imm9_parts, cjReg_cjField rs hrs,
    cjReg_cjField rt hrt, toInt_imm9 hoff]

theorem build_wordJR {asm pv f} (hm : m &&& 0xFFC01000#32 = m) {rs : GReg} {off : Int} (hoff : r13Ok off = true) :
    (rowJR asm pv m f).build (wordJR m rs off) = f rs off := by
  simp (disch := decide) only [rowJR, fieldRs, fieldR13, wordJR, bitsRs, bitsR13, placeR13, BitVec.extractLsb'_or,
    extractLsb'_place_self, extractLsb'_place_other, extractLsb'_eq_zero_of_and_eq hm,
    extractLsb'_eq_zero_of_and_eq bitsParse_and_self, BitVec.or_zero, BitVec.zero_or, imm13_parts, gReg_ofNat, toInt_imm13 hoff]

theorem build_wordAddi {asm pv f} (hm : m &&& 0xF0000000#32 = m) {rd rs : GReg} {s16 : Int} (h : s16Ok s16 = true) :
    (rowAddi asm pv m f).build (wordAddi m rd rs s16) = f rd rs s16 := by
  simp (disch := decide) only [rowAddi, fieldRd, fieldRs, fieldS16, wordAddi, bitsRd_eq_place, bitsRs, bitsS16, placeS16,
    BitVec.extractLsb'_or, extractLsb'_place_self, extractLsb'_place_other, extractLsb'_eq_zero_of_and_eq hm,
    extractLsb'_eq_zero_of_and_eq bitsParse_and_self, BitVec.or_zero, BitVec.zero_or, imm16_parts, gReg_ofNat, toInt_imm16 h]

theorem build_wordRrr {asm pv f} (hm : m &&& 0xFFE00000#32 = m) (rd rs rt : GReg) :
    (rowRrr asm pv m f).build (wordRrr m rd rs rt) = f rd rs rt := by
  simp (disch := decide) only [rowRrr, fieldRd, fieldRs, fieldRt, wordRrr, bitsRd_eq_place, bitsRs, bitsRt,
    BitVec.extractLsb'_or, extractLsb'_place_self, extractLsb'_place_other, extractLsb'_eq_zero_of_and_eq hm,
    extractLsb'_eq_zero_of_and_eq bitsParse_and_self, BitVec.or_zero, BitVec.zero_or, gReg_ofNat]

end

/-- A row reads back the well-formed instruction whose word it wrote. -/
theorem Row.Writes.build_eq {r : Row} {i : Instr} {w : Word} (h : r.Writes i w) (hr : r ∈ rows) (hi : i.wf = true) :
    r.build w = i := by
  have hm := rows_match_and_mask r hr
  cases h with
  | n1 rs off hwf => exact build_wordN1 hm (hwf ▸ hi)
  | u5 rs u off hwf => exact build_wordU5 hm (hwf ▸ hi)
  | rr rs rt off hwf => exact build_wordRR hm (hwf ▸ hi)
  | jr rs off hwf => exact build_wordJR hm (hwf ▸ hi)
  | addi rd rs s16 hwf => exact build_wordAddi hm (hwf ▸ hi)
  | rrr rd rs rt => exact build_wordRrr hm rd rs rt

/-- Settles O3: the word selects the row that wrote it, and that row reads the operands back. -/
theorem decodeInvertsEncode : Obligations.DecodeInvertsEncode := by
  intro i hi w hw
  obtain ⟨r, hr, -, hwr⟩ := encode_eq_some hw
  rw [decode_of_decodeRow_ok (decodeRow_of_selects (hwr.fieldParse_eq hr) hr (hwr.selects hr)), hwr.build_eq hr hi]

/-- Settles O1: the encoder writes these words, so the decoder reads the instructions back. -/
theorem specWordsDecode : Obligations.SpecWordsDecode := by
  and_intros <;> exact decodeInvertsEncode _ rfl _ rfl

/-! ## Bits printed `-` (R74) -/

/-- The row is of one of the six formats. -/
inductive Row.Formed : Row → Prop where
  | n1 (asm pv m f) : Formed (rowN1 asm pv m f)
  | u5 (asm pv m f) : Formed (rowU5 asm pv m f)
  | rr (asm pv m f) : Formed (rowRR asm pv m f)
  | jr (asm pv m f) : Formed (rowJR asm pv m f)
  | addi (asm pv m f) : Formed (rowAddi asm pv m f)
  | rrr (asm pv m f) : Formed (rowRrr asm pv m f)

/-- The table holds rows of these formats alone (R75, R76, R81, R82, R83). -/
theorem rows_formed : ∀ r ∈ rows, r.Formed := by
  simp only [rows, rowsCmpEqN1, rowsCmpEqU5, rowsCmpEqRR, rowsCmpGtN1, rowsCmpGtU5, rowsCmpGtRR, rowsCmpGtuU5, rowsCmpGtuRR,
    rowsTstbit, rowsJumpOnRegister, rowsAdd, List.forall_mem_append, List.forall_mem_cons, List.not_mem_nil, false_imp_iff,
    implies_true, and_true]
  and_intros <;> constructor

/-- Every format defines the Parse bits (R72). -/
theorem definedBits_parse (f : Format) : (definedBits f).extractLsb' 14 2 = BitVec.allOnes 2 := by cases f <;> rfl

/-- A row builds the same instruction of words that agree on the bits its format defines. -/
theorem Row.Formed.build_congr {r : Row} (h : r.Formed) {w w' : Word}
    (hw : w' &&& definedBits r.format = w &&& definedBits r.format) : r.build w' = r.build w := by
  cases h with
  | n1 =>
    replace hw : w' &&& definedBits .cjN1 = w &&& definedBits .cjN1 := hw
    simp (disch := decide) only [rowN1, fieldS4, fieldR9, extractLsb'_congr hw]
  | u5 =>
    replace hw : w' &&& definedBits .cjU5 = w &&& definedBits .cjU5 := hw
    simp (disch := decide) only [rowU5, fieldS4, fieldU5, fieldR9, extractLsb'_congr hw]
  | rr =>
    replace hw : w' &&& definedBits .cjRR = w &&& definedBits .cjRR := hw
    simp (disch := decide) only [rowRR, fieldS4, fieldT4, fieldR9, extractLsb'_congr hw]
  | jr =>
    replace hw : w' &&& definedBits .jr = w &&& definedBits .jr := hw
    simp (disch := decide) only [rowJR, fieldRs, fieldR13, extractLsb'_congr hw]
  | addi =>
    replace hw : w' &&& definedBits .addi = w &&& definedBits .addi := hw
    simp (disch := decide) only [rowAddi, fieldRd, fieldRs, fieldS16, extractLsb'_congr hw]
  | rrr =>
    replace hw : w' &&& definedBits .alu32Rrr = w &&& definedBits .alu32Rrr := hw
    simp (disch := decide) only [rowRrr, fieldRd, fieldRs, fieldRt, extractLsb'_congr hw]

/-- Words that agree on the bits that the format of a selected row defines decode alike (D21). -/
theorem decode_congr {r : Row} (hr : r ∈ rows) {w w' : Word} (hp : fieldParse w = 3#2) (hs : r.selects w = true)
    (hw : w' &&& definedBits r.format = w &&& definedBits r.format) : decode w' = decode w := by
  have hp' : fieldParse w' = 3#2 := (extractLsb'_congr hw (definedBits_parse r.format)).trans hp
  have hs' : r.selects w' = true := by
    rw [Row.selects_iff, and_congr_of_subset hw (rows_mask_and_definedBits r hr), Row.selects_iff.1 hs]
  rw [decode_of_decodeRow_ok (decodeRow_of_selects hp hr hs), decode_of_decodeRow_ok (decodeRow_of_selects hp' hr hs'),
    (rows_formed r hr).build_congr hw]

/-- An encoded word is 0 in the `-` bits of its format (R74). -/
theorem encode_and_dash {i : Instr} {w : Word} (h : encode i = some w) : w &&& ~~~definedBits i.format = 0#32 := by
  obtain ⟨r, hr, hfmt, hwr⟩ := encode_eq_some h
  rw [← hfmt, hwr.and_eq (operandBits_and_dash r.format), rows_fixed_and_dash r hr]

/-- Settles O6: no field and no mask of a row holds a `-` bit. -/
theorem dashBitsAreIgnoredAndWrittenZero : Obligations.DashBitsAreIgnoredAndWrittenZero :=
  ⟨fun _ hr _ _ => decode_congr hr, fun _ _ => encode_and_dash⟩

end Sys2Proof
end

section
/-! PROOFS. The compare-and-jumps (40_compare_and_jump.md): each of the nine operations is the common compare-and-jump on
its own compare result, the spec's words for that result, and with them the statements of this family. -/

namespace Sys2Proof

/-- Settles O7: the row that a word selects builds well-formed instructions alone. -/
theorem decodedInstructionsAreWellFormed : Obligations.DecodedInstructionsAreWellFormed := by
  intro w i h
  obtain ⟨r, hr, rfl⟩ := decode_ok h
  obtain ⟨hwf, -⟩ := decodeRow_sound hr w
  exact hwf

end Sys2Proof

namespace Sys2Proof.Machine

open Sys2Proof

/-! ## The place of a compare-and-jump in the table -/

/-- The eight variants of an operation, in the order of the table's rows (R100, R102, R113). -/
def cjVariants (f : CjPred → Sense → Hint → Instr) : List Instr :=
  [f .p0 .plain .nt, f .p0 .plain .t, f .p0 .inverted .nt, f .p0 .inverted .t,
   f .p1 .plain .nt, f .p1 .plain .t, f .p1 .inverted .nt, f .p1 .inverted .t]

theorem exists_of_mem_cjVariants {f : CjPred → Sense → Hint → Instr} {i : Instr} (h : i ∈ cjVariants f) :
    ∃ d n h, i = f d n h := by
  simp only [cjVariants, List.mem_cons, List.not_mem_nil, or_false] at h
  obtain rfl | rfl | rfl | rfl | rfl | rfl | rfl | rfl := h <;> exact ⟨_, _, _, rfl⟩

/-- The nine operations, in the order of the table's rows (R103 to R111). -/
def cjOperations (rs rt : GReg) (u : Nat) (off : Int) : List (CjPred → Sense → Hint → Instr) :=
  [(.cmpEqN1 · · · rs off), (.cmpEqU5 · · · rs u off), (.cmpEqRR · · · rs rt off), (.cmpGtN1 · · · rs off),
   (.cmpGtU5 · · · rs u off), (.cmpGtRR · · · rs rt off), (.cmpGtuU5 · · · rs u off), (.cmpGtuRR · · · rs rt off),
   (.tstbit · · · rs off)]

theorem map_fst_compareJumps (d : CjPred) (n : Sense) (h : Hint) (rs rt : GReg) (u : Nat) (off : Int) (s : State) :
    (compareJumps d n h rs rt u off s).map Prod.fst = (cjOperations rs rt u off).map (· d n h) := rfl

/-- The instruction stands, among the variants of the nine operations on these operands, at its place in the table. -/
def InFamily (i : Instr) (rs rt : GReg) (u : Nat) (off : Int) : Prop :=
  ((cjOperations rs rt u off).flatMap cjVariants)[i.ctorIdx]? = some i

theorem InFamily.mem_compareJumps {i : Instr} {rs rt : GReg} {u : Nat} {off : Int} (hi : InFamily i rs rt u off) :
    ∃ d n h, ∀ s : State, i ∈ (compareJumps d n h rs rt u off s).map Prod.fst := by
  obtain ⟨f, hf, hif⟩ := List.mem_flatMap.1 (List.mem_of_getElem? hi)
  obtain ⟨d, n, h, rfl⟩ := exists_of_mem_cjVariants hif
  refine ⟨d, n, h, fun s => ?_⟩
  rw [map_fst_compareJumps]
  exact List.mem_map_of_mem (f := (· d n h)) hf

theorem inFamily_of_cjN1 {i : Instr} (hf : i.format = .cjN1) : ∃ rs off, InFamily i rs 0 0 off := by
  cases i <;> cases hf <;> exact ⟨_, _, rfl⟩

theorem inFamily_of_cjU5 {i : Instr} (hf : i.format = .cjU5) : ∃ rs u off, InFamily i rs 0 u off := by
  cases i <;> cases hf <;> exact ⟨_, _, _, rfl⟩

theorem inFamily_of_cjRR {i : Instr} (hf : i.format = .cjRR) : ∃ rs rt off, InFamily i rs rt 0 off := by
  cases i <;> cases hf <;> exact ⟨_, _, _, rfl⟩

/-- The nine families hold every compare-and-jump (R103 to R111). -/
theorem inFamily_of_isCompareJump {i : Instr} (hi : i.isCompareJump = true) : ∃ rs rt u off, InFamily i rs rt u off := by
  unfold Instr.isCompareJump at hi
  cases hf : i.format with
  | cjN1 =>
    obtain ⟨rs, off, h⟩ := inFamily_of_cjN1 hf
    exact ⟨rs, 0, 0, off, h⟩
  | cjU5 =>
    obtain ⟨rs, u, off, h⟩ := inFamily_of_cjU5 hf
    exact ⟨rs, 0, u, off, h⟩
  | cjRR =>
    obtain ⟨rs, rt, off, h⟩ := inFamily_of_cjRR hf
    exact ⟨rs, rt, 0, off, h⟩
  | jr | addi | alu32Rrr | hvxUnknown => simp [hf] at hi

/-! ## The compare results in the spec's words -/

theorem cmpEq_eq_decide (a b : Word) : cmpEq a b = decide (a = b) := rfl

theorem cmpEq_minusOne (a : Word) : cmpEq a minusOne = decide (a = 0xFFFFFFFF#32) := rfl

/-- The value of an immediate that `#U5` can express (R80). -/
theorem toNat_immU5 {u : Nat} (hu : u < 32) : (immU5 u).toNat = u := by
  rw [immU5, BitVec.toNat_ofNat]
  omega

/-- `#U5` is not negative as a signed operand (R107). -/
theorem toInt_immU5 {u : Nat} (hu : u < 32) : (immU5 u).toInt = u := by
  rw [BitVec.toInt_eq_toNat_of_lt (by rw [toNat_immU5 hu]; omega), toNat_immU5 hu]

theorem cmpEq_immU5 (a : Word) {u : Nat} (hu : u < 32) : cmpEq a (immU5 u) = decide (a.toNat = u) := by
  rw [cmpEq_eq_decide, decide_eq_decide, ← BitVec.toNat_inj, toNat_immU5 hu]

theorem cmpGt_immU5 (a : Word) {u : Nat} (hu : u < 32) : cmpGt a (immU5 u) = decide ((u : Int) < a.toInt) := by
  rw [cmpGt, toInt_immU5 hu]

theorem cmpGtu_immU5 (a : Word) {u : Nat} (hu : u < 32) : cmpGtu a (immU5 u) = decide (u < a.toNat) := by
  rw [cmpGtu, toNat_immU5 hu]

/-- Signed greater than `-1` is bit 31 clear (R106). -/
theorem cmpGt_minusOne (a : Word) : cmpGt a minusOne = !a.getLsbD 31 := by
  have hsign : a.getLsbD 31 = decide (a.toInt < 0) := a.msb_eq_getLsbD_last.symm.trans a.msb_eq_toInt
  have hone : minusOne.toInt = -1 := rfl
  rw [cmpGt, hone, hsign, ← decide_not, decide_eq_decide]
  omega

/-- Bit 0 of a register is set when the register is odd (R111). -/
theorem tstbit0_eq_decide (a : Word) : tstbit0 a = decide (a.toNat % 2 = 1) := Nat.testBit_zero a.toNat

/-! ## The meaning of each operation

One equation for all variants: the hint does not stand on the right (R113, R150). -/

section
variable (d : CjPred) (n : Sense) (h : Hint) (rs rt : GReg) (u : Nat) (off : Int) (s : State)

theorem exec_cmpEqN1 :
    exec (.cmpEqN1 d n h rs off) s = compareAndJump d n (cmpEq (s.readR rs) minusOne) off s := by
  cases d <;> cases n <;> cases h <;> rfl

theorem exec_cmpEqU5 :
    exec (.cmpEqU5 d n h rs u off) s = compareAndJump d n (cmpEq (s.readR rs) (immU5 u)) off s := by
  cases d <;> cases n <;> cases h <;> rfl

theorem exec_cmpEqRR :
    exec (.cmpEqRR d n h rs rt off) s = compareAndJump d n (cmpEq (s.readR rs) (s.readR rt)) off s := by
  cases d <;> cases n <;> cases h <;> rfl

theorem exec_cmpGtN1 :
    exec (.cmpGtN1 d n h rs off) s = compareAndJump d n (cmpGt (s.readR rs) minusOne) off s := by
  cases d <;> cases n <;> cases h <;> rfl

theorem exec_cmpGtU5 :
    exec (.cmpGtU5 d n h rs u off) s = compareAndJump d n (cmpGt (s.readR rs) (immU5 u)) off s := by
  cases d <;> cases n <;> cases h <;> rfl

theorem exec_cmpGtRR :
    exec (.cmpGtRR d n h rs rt off) s = compareAndJump d n (cmpGt (s.readR rs) (s.readR rt)) off s := by
  cases d <;> cases n <;> cases h <;> rfl

theorem exec_cmpGtuU5 :
    exec (.cmpGtuU5 d n h rs u off) s = compareAndJump d n (cmpGtu (s.readR rs) (immU5 u)) off s := by
  cases d <;> cases n <;> cases h <;> rfl

theorem exec_cmpGtuRR :
    exec (.cmpGtuRR d n h rs rt off) s = compareAndJump d n (cmpGtu (s.readR rs) (s.readR rt)) off s := by
  cases d <;> cases n <;> cases h <;> rfl

theorem exec_tstbit :
    exec (.tstbit d n h rs off) s = compareAndJump d n (tstbit0 (s.readR rs)) off s := by
  cases d <;> cases n <;> cases h <;> rfl

theorem exec_jumpNe : exec (.jumpNe h rs off) s = jumpOnRegister (condNe (s.readR rs)) off s := by cases h <;> rfl

theorem exec_jumpLe : exec (.jumpLe h rs off) s = jumpOnRegister (condLe (s.readR rs)) off s := by cases h <;> rfl

theorem exec_jumpEq : exec (.jumpEq h rs off) s = jumpOnRegister (condEq (s.readR rs)) off s := by cases h <;> rfl

theorem exec_jumpGe : exec (.jumpGe h rs off) s = jumpOnRegister (condGe (s.readR rs)) off s := by cases h <;> rfl

end

/-- Settles O22: both variants have the meaning that names no hint. -/
theorem hintsChangeNothing : Obligations.HintsChangeNothing := by
  intro d n rs rt u off s
  simp only [exec_cmpEqN1, exec_cmpEqU5, exec_cmpEqRR, exec_cmpGtN1, exec_cmpGtU5, exec_cmpGtRR, exec_cmpGtuU5,
    exec_cmpGtuRR, exec_tstbit, exec_jumpNe, exec_jumpLe, exec_jumpEq, exec_jumpGe, and_self]

/-! ## The effect of a compare-and-jump (R101, R102) -/

/-- A compare-and-jump is taken when its result has its sense (R102). -/
theorem takes_eq_true_iff {n : Sense} {c : Bool} : takes n c = true ↔ c = decide (n = Sense.plain) := by
  cases n <;> cases c <;> decide

/-- An instruction that is the common compare-and-jump on the result `c` has its effect. -/
theorem compareJumpEffect_of_exec {i : Instr} {s : State} {d : CjPred} {n : Sense} {c : Bool} {off : Int}
    (h : exec i s = compareAndJump d n c off s) : ∃ t, exec i s = .next t ∧ CompareJumpEffect d n c off s t := by
  refine ⟨_, h.trans (compareAndJump_eq d n c off s), ?_, ?_, fun q hq => ?_, fun _ => rfl, fun _ => rfl, rfl, rfl,
    fun _ => rfl⟩
  · exact State.writeP_readP_same s d.reg _
  · exact if_congr takes_eq_true_iff rfl rfl
  · exact State.writeP_readP_other s d.reg q _ hq

/-- Settles O11: `#-1` is the word with all bits set. -/
theorem compareEqualMinusOneThenJump : Obligations.CompareEqualMinusOneThenJump := fun d n h rs off s =>
  compareJumpEffect_of_exec (by rw [exec_cmpEqN1, cmpEq_minusOne])

/-- Settles O12: `#U5` has its own value as a 32-bit word. -/
theorem compareEqualU5ThenJump : Obligations.CompareEqualU5ThenJump := fun d n h rs u off s hu =>
  compareJumpEffect_of_exec (by rw [exec_cmpEqU5, cmpEq_immU5 _ hu])

/-- Settles O13: both operands are registers. -/
theorem compareEqualRegistersThenJump : Obligations.CompareEqualRegistersThenJump := fun d n h rs rt off s =>
  compareJumpEffect_of_exec (by rw [exec_cmpEqRR, cmpEq_eq_decide])

/-- Settles O14: the signed compare with `-1` reads the sign bit. -/
theorem compareGreaterMinusOneThenJump : Obligations.CompareGreaterMinusOneThenJump := fun d n h rs off s =>
  compareJumpEffect_of_exec (by rw [exec_cmpGtN1, cmpGt_minusOne])

/-- Settles O15: `#U5` has its own value as a signed word. -/
theorem compareGreaterU5ThenJump : Obligations.CompareGreaterU5ThenJump := fun d n h rs u off s hu =>
  compareJumpEffect_of_exec (by rw [exec_cmpGtU5, cmpGt_immU5 _ hu])

/-- Settles O16: both operands are read as signed words. -/
theorem compareGreaterRegistersThenJump : Obligations.CompareGreaterRegistersThenJump := fun d n h rs rt off s =>
  compareJumpEffect_of_exec (by rw [exec_cmpGtRR, cmpGt])

/-- Settles O17: `#U5` has its own value as an unsigned word. -/
theorem compareGreaterUnsignedU5ThenJump : Obligations.CompareGreaterUnsignedU5ThenJump := fun d n h rs u off s hu =>
  compareJumpEffect_of_exec (by rw [exec_cmpGtuU5, cmpGtu_immU5 _ hu])

/-- Settles O18: both operands are read as unsigned words. -/
theorem compareGreaterUnsignedRegistersThenJump : Obligations.CompareGreaterUnsignedRegistersThenJump :=
  fun d n h rs rt off s => compareJumpEffect_of_exec (by rw [exec_cmpGtuRR, cmpGtu])

/-- Settles O19: the bit tested is the parity of the register. -/
theorem testBitZeroThenJump : Obligations.TestBitZeroThenJump := fun d n h rs off s =>
  compareJumpEffect_of_exec (by rw [exec_tstbit, tstbit0_eq_decide])

/-! ## The nine operations together -/

/-- Each of the nine operations has the effect of a compare-and-jump with its own result (R103 to R111). -/
theorem compareJumps_effect {d : CjPred} {n : Sense} {h : Hint} {rs rt : GReg} {u : Nat} {off : Int} {s : State}
    (hu : u < 32) : ∀ ic ∈ compareJumps d n h rs rt u off s,
      ∃ t, exec ic.1 s = .next t ∧ CompareJumpEffect d n ic.2 off s t := by
  simp only [compareJumps, List.forall_mem_cons, List.not_mem_nil, false_imp_iff, implies_true, and_true]
  exact ⟨compareEqualMinusOneThenJump d n h rs off s, compareEqualU5ThenJump d n h rs u off s hu,
    compareEqualRegistersThenJump d n h rs rt off s, compareGreaterMinusOneThenJump d n h rs off s,
    compareGreaterU5ThenJump d n h rs u off s hu, compareGreaterRegistersThenJump d n h rs rt off s,
    compareGreaterUnsignedU5ThenJump d n h rs u off s hu, compareGreaterUnsignedRegistersThenJump d n h rs rt off s,
    testBitZeroThenJump d n h rs off s⟩

/-- The compare results read no predicate (R103 to R111). -/
theorem compareJumps_withPreds (d : CjPred) (n : Sense) (h : Hint) (rs rt : GReg) (u : Nat) (off : Int) (s : State)
    (p : Vector Byte 4) : compareJumps d n h rs rt u off { s with p := p } = compareJumps d n h rs rt u off s := rfl

/-- Bit 0 of the new predicate is the compare result (R101). -/
theorem getLsbD_zero_predValue (c : Bool) : (if c = true then 0xFF#8 else 0x00#8).getLsbD 0 = c := newBit_predValue c

/-- A compare-and-jump at an aligned `pc` leaves `pc` aligned (R27, R102). -/
theorem CompareJumpEffect.aligned_pc {d : CjPred} {n : Sense} {c : Bool} {off : Int} {s t : State}
    (h : CompareJumpEffect d n c off s t) (hs : aligned s.pc = true) : aligned t.pc = true := by
  obtain ⟨-, hpc, -⟩ := h
  rw [hpc]
  split
  · exact aligned_cjTarget off hs
  · exact aligned_nextWord hs

/-- Settles O20: by the effect of each operation, from the state and from the state with other predicates.
The nine families hold every compare-and-jump, as each stands at its place in the table. -/
theorem everyCompareJumpWritesItsPredicateThenJumps : Obligations.EveryCompareJumpWritesItsPredicateThenJumps := by
  refine ⟨fun d n h rs rt u off s hu ic hic => ?_, fun i s hi => ?_⟩
  · obtain ⟨t, ht, heff⟩ := compareJumps_effect hu ic hic
    obtain ⟨hp, hpc, hframe⟩ := id heff
    have hbit : (t.readP d.reg).getLsbD 0 = ic.2 := by rw [hp, getLsbD_zero_predValue]
    refine ⟨t, ht, hp, hbit, by rw [hbit, hpc], fun p => ?_, heff.aligned_pc, hframe⟩
    rw [← compareJumps_withPreds d n h rs rt u off s p] at hic
    obtain ⟨t', ht', hp', hpc', -⟩ := compareJumps_effect hu ic hic
    exact ⟨t', ht', hpc'.trans hpc.symm, hp'.trans hp.symm⟩
  · obtain ⟨rs, rt, u, off, hfam⟩ := inFamily_of_isCompareJump hi
    obtain ⟨d, n, h, hmem⟩ := hfam.mem_compareJumps
    exact ⟨d, n, h, rs, rt, u, off, hmem s⟩

end Sys2Proof.Machine
end

section
/-! PROOFS. The jumps on register (41_jump_on_register.md): the spec's words for the four conditions, the effect of the
common jump on register, and with them the statements of this family. -/

namespace Sys2Proof.Machine

open Sys2Proof

/-! ## The conditions in the spec's words -/

theorem condNe_eq_decide (a : Word) : condNe a = decide (a ≠ 0#32) := (decide_not (p := a = 0#32)).symm

theorem condEq_eq_decide (a : Word) : condEq a = decide (a = 0#32) := rfl

/-- Not negative is greater than `-1`, signed (R148, R106). -/
theorem condGe_eq_cmpGt_minusOne (a : Word) : condGe a = cmpGt a minusOne := by
  have hone : minusOne.toInt = -1 := rfl
  rw [condGe, cmpGt, hone, decide_eq_decide]
  omega

/-- Not negative is bit 31 clear (R148). -/
theorem condGe_eq_not_getLsbD (a : Word) : condGe a = !a.getLsbD 31 := by
  rw [condGe_eq_cmpGt_minusOne, cmpGt_minusOne]

/-- Not positive is zero or negative (R144). -/
theorem condLe_eq_condEq_or_not_condGe (a : Word) : condLe a = (condEq a || !condGe a) := by
  have hzero : a = 0#32 ↔ a.toInt = 0 := BitVec.toInt_inj.symm
  rw [condEq_eq_decide, condLe, condGe, ← decide_not, ← Bool.decide_or, decide_eq_decide, hzero]
  omega

/-- Not positive is zero or bit 31 set (R144). -/
theorem condLe_eq_decide_or_getLsbD (a : Word) : condLe a = (decide (a = 0#32) || a.getLsbD 31) := by
  rw [condLe_eq_condEq_or_not_condGe, condEq_eq_decide, condGe_eq_not_getLsbD, Bool.not_not]

/-! ## The effect of a jump on register (R140, R141) -/

/-- An instruction that is the common jump on register with the condition `c` has its effect. -/
theorem jumpOnRegisterEffect_of_exec {i : Instr} {s : State} {c : Bool} {off : Int}
    (h : exec i s = jumpOnRegister c off s) : ∃ t, exec i s = .next t ∧ JumpOnRegisterEffect c off s t :=
  ⟨_, h.trans (jumpOnRegister_eq c off s), State.setPc_pc s _, State.setPc_readR s _, State.setPc_readP s _,
    State.setPc_readV s _, State.setPc_ovf s _, State.setPc_params s _, fun _ => rfl⟩

/-- Settles O24: a signed word is not positive when it is zero or its sign bit is set. -/
theorem jumpIfNotPositive : Obligations.JumpIfNotPositive := fun h rs off s =>
  jumpOnRegisterEffect_of_exec (by rw [exec_jumpLe, condLe_eq_decide_or_getLsbD])

/-- Settles O26: a signed word is not negative when its sign bit is clear. -/
theorem jumpIfNotNegative : Obligations.JumpIfNotNegative := fun h rs off s =>
  jumpOnRegisterEffect_of_exec (by rw [exec_jumpGe, condGe_eq_not_getLsbD])

/-- Settles O23: the register is compared with the zero word. -/
theorem jumpIfNotZero : Obligations.JumpIfNotZero := fun h rs off s =>
  jumpOnRegisterEffect_of_exec (by rw [exec_jumpNe, condNe_eq_decide])

/-- Settles O25: the register is compared with the zero word. -/
theorem jumpIfZero : Obligations.JumpIfZero := fun h rs off s =>
  jumpOnRegisterEffect_of_exec (by rw [exec_jumpEq, condEq_eq_decide])

end Sys2Proof.Machine
end

section
/-! PROOFS. The narrowing shifts (42_hvx_vasr_narrow.md): where an element stands in a vector register, the values of the
conversions, of the shift amount and of the rounding shift, the lane structure of a `vasr`, and with them the statements of
this family. -/

namespace Sys2Proof.Machine

open Sys2Proof

/-! ## Elements (R11, D30) -/

/-- A field of a field is a field of the whole. -/
theorem extractLsb'_extractLsb'_add {w : Nat} (x : BitVec w) (start : Nat) {len start' len' : Nat} (h : start' + len' ≤ len) :
    (x.extractLsb' start len).extractLsb' start' len' = x.extractLsb' (start + start') len' := by
  apply BitVec.eq_of_getLsbD_eq
  intro i hi
  have hlt : start' + i < len := by omega
  simp [hi, hlt, Nat.add_assoc]

/-- Halfword `2k` is the low half of word `k`. -/
theorem elem16_two_mul (x : VecVal) (k : Nat) : elem16 x (2 * k) = (elem32 x k).extractLsb' 0 16 := by
  simp [elem16, elem32]

/-- Halfword `2k + 1` is the high half of word `k`. -/
theorem elem16_two_mul_add_one (x : VecVal) (k : Nat) : elem16 x (2 * k + 1) = (elem32 x k).extractLsb' 16 16 := by
  have hdiv : (2 * k + 1) / 2 = k := by omega
  simp [elem16, elem32, hdiv]

/-- Byte `2k` is the low half of halfword `k`. -/
theorem elem8_two_mul (x : VecVal) (k : Nat) : elem8 x (2 * k) = (elem16 x k).extractLsb' 0 8 := by
  have hdiv : 2 * k / 4 = k / 2 := by omega
  have hmod : 8 * (2 * k % 4) = 16 * (k % 2) := by omega
  rw [elem8, elem16, hdiv, hmod, extractLsb'_extractLsb'_add _ _ (by decide), Nat.add_zero]

/-- Byte `2k + 1` is the high half of halfword `k`. -/
theorem elem8_two_mul_add_one (x : VecVal) (k : Nat) : elem8 x (2 * k + 1) = (elem16 x k).extractLsb' 8 8 := by
  have hdiv : (2 * k + 1) / 4 = k / 2 := by omega
  have hmod : 8 * ((2 * k + 1) % 4) = 16 * (k % 2) + 8 := by omega
  rw [elem8, elem16, hdiv, hmod, extractLsb'_extractLsb'_add _ _ (by decide)]

theorem elem32_ofElems32 {n k : Nat} (hk : k < n) (f : Nat → Word) : elem32 (ofElems32 n f) k = f k := by
  simp [elem32, ofElems32, hk]

theorem elem16_ofElems16 {n k : Nat} (hk : k < 2 * n) (f : Nat → Half) : elem16 (ofElems16 n f) k = f k := by
  have hlt : k / 2 < n := by omega
  have hword : (ofElems16 n f).getD (k / 2) 0#32 = f (2 * (k / 2) + 1) ++ f (2 * (k / 2)) := by simp [ofElems16, hlt]
  rw [elem16, hword]
  obtain heven | hodd := Nat.mod_two_eq_zero_or_one k
  · rw [heven, Nat.mul_zero, BitVec.extractLsb'_append_eq_right]
    congr 1
    omega
  · rw [hodd, Nat.mul_one, BitVec.extractLsb'_append_eq_left]
    congr 1
    omega

/-! ## Conversions (R160, D28) -/

theorem clampTo_eq_max_min {lo hi : Int} (h : lo ≤ hi) (x : Int) : clampTo lo hi x = max lo (min hi x) := by
  unfold clampTo
  split
  case isTrue hlo => omega
  case isFalse hlo => split <;> omega

theorem sat8_eq (x : Int) : sat8 x = BitVec.ofInt 8 (max (-128) (min 127 x)) := by
  rw [sat8, clampTo_eq_max_min (by decide)]

theorem usat8_eq (x : Int) : usat8 x = BitVec.ofInt 8 (max 0 (min 255 x)) := by
  rw [usat8, clampTo_eq_max_min (by decide)]

theorem sat16_eq (x : Int) : sat16 x = BitVec.ofInt 16 (max (-32768) (min 32767 x)) := by
  rw [sat16, clampTo_eq_max_min (by decide)]

theorem usat16_eq (x : Int) : usat16 x = BitVec.ofInt 16 (max 0 (min 65535 x)) := by
  rw [usat16, clampTo_eq_max_min (by decide)]

/-- A number that fits in `w` bits without a sign is the unsigned value of the vector it makes. -/
theorem toNat_ofInt_eq_self {w : Nat} {x : Int} (h0 : 0 ≤ x) (hx : x < 2 ^ w) : ((BitVec.ofInt w x).toNat : Int) = x := by
  rw [BitVec.toNat_ofInt, Int.natCast_pow, Int.emod_eq_of_lt h0 (by exact_mod_cast hx), Int.toNat_of_nonneg h0]

/-- Settles O41: the clamped number fits in the width of the result. -/
theorem narrowSaturationsClamp : Obligations.NarrowSaturationsClamp := by
  intro x
  refine ⟨?_, ?_, ?_, ?_⟩
  · rw [sat8_eq]
    exact BitVec.toInt_ofInt_eq_self (by decide) (by omega) (by omega)
  · rw [usat8_eq]
    exact toNat_ofInt_eq_self (by omega) (by omega)
  · rw [sat16_eq]
    exact BitVec.toInt_ofInt_eq_self (by decide) (by omega) (by omega)
  · rw [usat16_eq]
    exact toNat_ofInt_eq_self (by omega) (by omega)

/-! ## Shift amount (R162) -/

theorem shamt16_eq_mod (x : Word) : shamt16 x = x.toNat % 8 := by
  simp [shamt16]

theorem shamt32_eq_mod (x : Word) : shamt32 x = x.toNat % 16 := by
  simp [shamt32]

theorem shamt16_eq_and (x : Word) : shamt16 x = (x &&& 7#32).toNat := by
  rw [shamt16_eq_mod, BitVec.toNat_and]
  exact (Nat.and_two_pow_sub_one_eq_mod x.toNat 3).symm

theorem shamt32_eq_and (x : Word) : shamt32 x = (x &&& 15#32).toNat := by
  rw [shamt32_eq_mod, BitVec.toNat_and]
  exact (Nat.and_two_pow_sub_one_eq_mod x.toNat 4).symm

theorem shamt16_le (x : Word) : shamt16 x ≤ 7 := by
  rw [shamt16_eq_mod]
  omega

theorem shamt32_le (x : Word) : shamt32 x ≤ 15 := by
  rw [shamt32_eq_mod]
  omega

/-! ## The rounding shift (R163) -/

/-- Without `:rnd` the bias is 0 (D15). -/
theorem shr_unrounded (x : Int) (n : Nat) : shr x n false = x / 2 ^ n := by simp [shr, roundBias]

/-- With `:rnd` the bias is half of `2^n` (D15). -/
theorem shr_rounded (x : Int) {n : Nat} (hn : 1 ≤ n) : shr x n true = (x + 2 ^ (n - 1)) / 2 ^ n := by
  simp [shr, roundBias, hn]

/-- A shift by 0 has no bias, rounding or not (D16). -/
theorem shr_zero (x : Int) (rnd : Bool) : shr x 0 rnd = x := by simp [shr, roundBias]

theorem shr_eq_shiftedValue (x : Int) (n : Nat) (rnd : Bool) : shr x n rnd = shiftedValue rnd n x := by
  unfold shiftedValue
  split
  case isTrue h =>
    obtain ⟨rfl, hn⟩ := h
    exact shr_rounded x hn
  case isFalse h =>
    cases rnd
    case false => exact shr_unrounded x n
    case true =>
      obtain rfl : n = 0 := by simpa using h
      simp [shr_zero]

/-- Division by `2^n` rounds down (R14). -/
theorem ediv_two_pow_bounds (x : Int) (n : Nat) : x / 2 ^ n * 2 ^ n ≤ x ∧ x < (x / 2 ^ n + 1) * 2 ^ n :=
  have hpos : (0 : Int) < 2 ^ n := by positivity
  ⟨Int.ediv_mul_le x hpos.ne', Int.lt_ediv_add_one_mul_self x hpos⟩

/-- Settles O40: the rounded shift is the floor of the quotient once half of `2^n` is added. -/
theorem roundingShiftGoesToNearestTiesUp : Obligations.RoundingShiftGoesToNearestTiesUp := by
  intro x n
  refine ⟨shr_zero x, ?_, fun hn => ?_⟩
  · rw [shr_unrounded]
    exact ediv_two_pow_bounds x n
  · rw [shr_rounded x hn]
    obtain ⟨hle, hlt⟩ := ediv_two_pow_bounds (x + 2 ^ (n - 1)) n
    have hhalf : (2 : Int) ^ n = 2 ^ (n - 1) + 2 ^ (n - 1) := by rw [← Int.two_mul, mul_pow_sub_one (by omega)]
    rw [add_one_mul] at hlt
    omega

/-- The low bits of a shifted vector are bits of the vector, as long as none is a copy of its sign. -/
theorem setWidth_sshiftRight {w : Nat} (x : BitVec w) {n k : Nat} (h : n + k ≤ w) :
    (x.sshiftRight n).setWidth k = x.extractLsb' n k := by
  apply BitVec.eq_of_getLsbD_eq
  intro i hi
  have hbit : n + i < w := by omega
  have hlt : i < w := by omega
  simp [BitVec.getElem_sshiftRight, hi, hbit, hlt]

/-- The low 16 bits of a shifted word are bits `n + 15` to `n` of the sign-extended word (R168, D29). -/
theorem trunc16_shr_valW (e : Word) {n : Nat} (hn : n ≤ 15) :
    trunc16 (shr (valW e) n false) = (e.signExtend 64).extractLsb' n 16 := by
  have hint : (e.toInt / 2 ^ n : Int) = ((e.signExtend 64).sshiftRight n).toInt := by
    rw [BitVec.toInt_sshiftRight, BitVec.toInt_signExtend_of_le (by decide), Int.shiftRight_eq_div_pow, Int.natCast_pow,
      Nat.cast_ofNat]
  calc trunc16 (shr (valW e) n false)
    _ = ((e.signExtend 64).sshiftRight n).signExtend 16 := by rw [shr_unrounded, trunc16, valW, hint]; rfl
    _ = ((e.signExtend 64).sshiftRight n).setWidth 16 := BitVec.signExtend_eq_setWidth_of_le _ (by decide)
    _ = (e.signExtend 64).extractLsb' n 16 := setWidth_sshiftRight _ (by omega)

/-! ## The lane structure (R164) -/

/-- `d` is the vector of `len` words that R164 makes of `u` and `v`: `src` reads a source element, of which a word holds
`perWord`, `lo` and `hi` the two halves of the element of `d` with its index, and `f` is what is done to one element. -/
structure LaneVector {a b : Nat} (src : VecVal → Nat → BitVec a) (lo hi : VecVal → Nat → BitVec b) (perWord : Nat)
    (f : BitVec a → BitVec b) (len : Nat) (u v d : VecVal) : Prop where
  length : d.length = len
  lo_eq : ∀ k, k < perWord * len → lo d k = f (src v k)
  hi_eq : ∀ k, k < perWord * len → hi d k = f (src u k)

/-- The value a `vasr` with 16-bit source elements gives `Vd`. -/
def vasr16Value (val : Half → Int) (conv : Int → Byte) (rnd : Bool) (n len : Nat) (u v : VecVal) : VecVal :=
  ofElems16 len fun i => lane16 val conv n rnd (elem16 u i) (elem16 v i)

/-- The value a `vasr` with 32-bit source elements gives `Vd`. -/
def vasr32Value (val : Word → Int) (conv : Int → Half) (rnd : Bool) (n len : Nat) (u v : VecVal) : VecVal :=
  ofElems32 len fun i => lane32 val conv n rnd (elem32 u i) (elem32 v i)

theorem vasr16_eq (val : Half → Int) (conv : Int → Byte) (rnd : Bool) (vd vu vv : VReg) (rt : GReg) (s : State) :
    vasr16 val conv rnd vd vu vv rt s = .next (s.writeV vd
      (vasr16Value val conv rnd (shamt16 (s.readR rt)) s.params.vlenWords (s.readV vu) (s.readV vv))).advancePc := rfl

theorem vasr32_eq (val : Word → Int) (conv : Int → Half) (rnd : Bool) (vd vu vv : VReg) (rt : GReg) (s : State) :
    vasr32 val conv rnd vd vu vv rt s = .next (s.writeV vd
      (vasr32Value val conv rnd (shamt32 (s.readR rt)) s.params.vlenWords (s.readV vu) (s.readV vv))).advancePc := rfl

theorem laneVector_vasr16Value (val : Half → Int) (conv : Int → Byte) (rnd : Bool) (n len : Nat) (u v : VecVal) :
    LaneVector elem16 (fun x k => elem8 x (2 * k)) (fun x k => elem8 x (2 * k + 1)) 2 (fun e => conv (shr (val e) n rnd)) len
      u v (vasr16Value val conv rnd n len u v) where
  length := length_ofElems16 len _
  lo_eq k hk := by
    rw [vasr16Value, elem8_two_mul, elem16_ofElems16 hk]
    exact BitVec.extractLsb'_append_eq_right
  hi_eq k hk := by
    rw [vasr16Value, elem8_two_mul_add_one, elem16_ofElems16 hk]
    exact BitVec.extractLsb'_append_eq_left

theorem laneVector_vasr32Value (val : Word → Int) (conv : Int → Half) (rnd : Bool) (n len : Nat) (u v : VecVal) :
    LaneVector elem32 (fun x k => elem16 x (2 * k)) (fun x k => elem16 x (2 * k + 1)) 1 (fun e => conv (shr (val e) n rnd)) len
      u v (vasr32Value val conv rnd n len u v) where
  length := length_ofElems32 len _
  lo_eq k hk := by
    rw [vasr32Value, elem16_two_mul, elem32_ofElems32 (by omega)]
    exact BitVec.extractLsb'_append_eq_right
  hi_eq k hk := by
    rw [vasr32Value, elem16_two_mul_add_one, elem32_ofElems32 (by omega)]
    exact BitVec.extractLsb'_append_eq_left

/-- Writing a vector of `VLEN_BITS` bits to `Vd` and moving on has the frame of a `vasr` (R178). -/
theorem vasrFrame_writeV {vd : VReg} {s : State} {d : VecVal} (hd : d.length = s.params.vlenWords) :
    VasrFrame vd s (s.writeV vd d).advancePc := by
  refine ⟨?_, rfl, fun q hq => State.writeV_readV_other s vd q d hq, fun _ => rfl, fun _ => rfl, rfl, rfl, fun _ => rfl⟩
  rw [State.advancePc_readV, State.writeV_readV_same, hd]

/-- What an instruction answers that writes a lane vector to `Vd`: the frame, and the lane vector in `Vd`. -/
theorem LaneVector.effect {a b : Nat} {src : VecVal → Nat → BitVec a} {lo hi : VecVal → Nat → BitVec b} {perWord : Nat}
    {f : BitVec a → BitVec b} {vd : VReg} {s : State} {u v d : VecVal}
    (hd : LaneVector src lo hi perWord f s.params.vlenWords u v d) :
    VasrFrame vd s (s.writeV vd d).advancePc ∧
      LaneVector src lo hi perWord f s.params.vlenWords u v ((s.writeV vd d).advancePc.readV vd) := by
  refine ⟨vasrFrame_writeV hd.length, ?_⟩
  rwa [State.advancePc_readV, State.writeV_readV_same]

/-- The effect of an instruction that is the common `vasr` on 16-bit source elements. -/
theorem laneVector_of_exec16 {i : Instr} {s : State} {val : Half → Int} {conv : Int → Byte} {rnd : Bool} {vd vu vv : VReg}
    {rt : GReg} (h : exec i s = vasr16 val conv rnd vd vu vv rt s) : ∃ t, exec i s = .next t ∧ VasrFrame vd s t ∧
      LaneVector elem16 (fun x k => elem8 x (2 * k)) (fun x k => elem8 x (2 * k + 1)) 2
        (fun e => conv (shr (val e) (shamt16 (s.readR rt)) rnd)) s.params.vlenWords (s.readV vu) (s.readV vv) (t.readV vd) :=
  ⟨_, h.trans (vasr16_eq ..), (laneVector_vasr16Value ..).effect⟩

/-- The effect of an instruction that is the common `vasr` on 32-bit source elements. -/
theorem laneVector_of_exec32 {i : Instr} {s : State} {val : Word → Int} {conv : Int → Half} {rnd : Bool} {vd vu vv : VReg}
    {rt : GReg} (h : exec i s = vasr32 val conv rnd vd vu vv rt s) : ∃ t, exec i s = .next t ∧ VasrFrame vd s t ∧
      LaneVector elem32 (fun x k => elem16 x (2 * k)) (fun x k => elem16 x (2 * k + 1)) 1
        (fun e => conv (shr (val e) (shamt32 (s.readR rt)) rnd)) s.params.vlenWords (s.readV vu) (s.readV vv) (t.readV vd) :=
  ⟨_, h.trans (vasr32_eq ..), (laneVector_vasr32Value ..).effect⟩

/-! ## The results of the saturating shifts -/

/-- An instruction that is the common `vasr` on 16-bit source elements, with a conversion that clamps to `lo..hi`. -/
theorem vasrHalfResult_of_exec {i : Instr} {s : State} {val : Half → Int} {conv : Int → Byte} {lo hi : Int} {rnd : Bool}
    {vd vu vv : VReg} {rt : GReg} (hconv : ∀ x, conv x = BitVec.ofInt 8 (max lo (min hi x)))
    (h : exec i s = vasr16 val conv rnd vd vu vv rt s) :
    ∃ t, exec i s = .next t ∧ VasrHalfResult val lo hi rnd vd vu vv rt s t := by
  obtain ⟨t, ht, hframe, hlanes⟩ := laneVector_of_exec16 h
  simp only [hconv, shr_eq_shiftedValue, shamt16_eq_mod] at hlanes
  exact ⟨t, ht, hframe, fun k hk => ⟨hlanes.lo_eq k hk, hlanes.hi_eq k hk⟩⟩

/-- An instruction that is the common `vasr` on 32-bit source elements, with a conversion that clamps to `lo..hi`. -/
theorem vasrWordResult_of_exec {i : Instr} {s : State} {val : Word → Int} {conv : Int → Half} {lo hi : Int} {rnd : Bool}
    {vd vu vv : VReg} {rt : GReg} (hconv : ∀ x, conv x = BitVec.ofInt 16 (max lo (min hi x)))
    (h : exec i s = vasr32 val conv rnd vd vu vv rt s) :
    ∃ t, exec i s = .next t ∧ VasrWordResult val lo hi rnd vd vu vv rt s t := by
  obtain ⟨t, ht, hframe, hlanes⟩ := laneVector_of_exec32 h
  simp only [hconv, shr_eq_shiftedValue, shamt32_eq_mod] at hlanes
  exact ⟨t, ht, hframe, fun k hk => ⟨hlanes.lo_eq k (by omega), hlanes.hi_eq k (by omega)⟩⟩

/-- Settles O33: `sat8` clamps to -128..127. -/
theorem vasrHalfToSignedByte : Obligations.VasrHalfToSignedByte := fun _ _ _ _ _ =>
  ⟨vasrHalfResult_of_exec sat8_eq rfl, vasrHalfResult_of_exec sat8_eq rfl⟩

/-- Settles O34: `sat16` clamps to -32768..32767. -/
theorem vasrWordToSignedHalf : Obligations.VasrWordToSignedHalf := fun _ _ _ _ _ =>
  ⟨vasrWordResult_of_exec sat16_eq rfl, vasrWordResult_of_exec sat16_eq rfl⟩

/-- Settles O36: `usat8` clamps to 0..255. -/
theorem vasrHalfToUnsignedByte : Obligations.VasrHalfToUnsignedByte := fun _ _ _ _ _ =>
  ⟨vasrHalfResult_of_exec usat8_eq rfl, vasrHalfResult_of_exec usat8_eq rfl⟩

/-- Settles O37: `usat8` clamps to 0..255. -/
theorem vasrUnsignedHalfToUnsignedByte : Obligations.VasrUnsignedHalfToUnsignedByte := fun _ _ _ _ _ =>
  ⟨vasrHalfResult_of_exec usat8_eq rfl, vasrHalfResult_of_exec usat8_eq rfl⟩

/-- Settles O38: `usat16` clamps to 0..65535. -/
theorem vasrUnsignedWordToUnsignedHalf : Obligations.VasrUnsignedWordToUnsignedHalf := fun _ _ _ _ _ =>
  ⟨vasrWordResult_of_exec usat16_eq rfl, vasrWordResult_of_exec usat16_eq rfl⟩

/-- Settles O39: `usat16` clamps to 0..65535. -/
theorem vasrWordToUnsignedHalf : Obligations.VasrWordToUnsignedHalf := fun _ _ _ _ _ =>
  ⟨vasrWordResult_of_exec usat16_eq rfl, vasrWordResult_of_exec usat16_eq rfl⟩

/-- Settles O35: `trunc_16` keeps the low 16 bits of the shifted word. -/
theorem vasrTruncatingKeepsBitsAboveTheShift : Obligations.VasrTruncatingKeepsBitsAboveTheShift := by
  intro vd vu vv rt s
  obtain ⟨t, ht, hframe, hlanes⟩ := laneVector_of_exec32 (rfl : exec (.vasrHW vd vu vv rt) s = _)
  have hn := shamt32_le (s.readR rt)
  rw [shamt32_eq_mod] at hlanes hn
  simp only [trunc16_shr_valW _ hn] at hlanes
  exact ⟨t, ht, hframe, fun k hk => ⟨hlanes.lo_eq k (by omega), hlanes.hi_eq k (by omega)⟩⟩

/-! ## One amount for every element (R162) -/

/-- An instruction that writes to `Vd` a lane vector made with the amount `Rt & mask`, and of `Rt` reads no other bit. -/
theorem oneAmount_of_laneVector {a b : Nat} {mask : Word} {src : VecVal → Nat → BitVec a} {lo hi : VecVal → Nat → BitVec b}
    {perWord : Nat} {res : Nat → BitVec a → BitVec b} {i : VReg → VReg → VReg → GReg → Instr}
    {value : Nat → Nat → VecVal → VecVal → VecVal}
    (hexec : ∀ vd vu vv rt s, exec (i vd vu vv rt) s = .next (s.writeV vd
      (value (s.readR rt &&& mask).toNat s.params.vlenWords (s.readV vu) (s.readV vv))).advancePc)
    (hvalue : ∀ n len u v, LaneVector src lo hi perWord (res n) len u v (value n len u v)) :
    OneAmount mask src lo hi perWord res i := by
  refine fun vd vu vv rt s => ⟨fun x y hxy => ⟨_, _, hexec .., hexec .., ?_⟩, _, hexec .., ?_⟩
  · simp only [State.writeR_readR_same, hxy]
    rfl
  · obtain ⟨-, hlanes⟩ := (hvalue (s.readR rt &&& mask).toNat s.params.vlenWords (s.readV vu) (s.readV vv)).effect (vd := vd)
    refine ⟨fun k hk => ⟨hlanes.lo_eq k hk, hlanes.hi_eq k hk⟩, fun j k hj hk => ⟨fun h => ?_, fun h => ?_, fun h => ?_⟩⟩
    · rw [hlanes.lo_eq j hj, hlanes.lo_eq k hk, h]
    · rw [hlanes.hi_eq j hj, hlanes.hi_eq k hk, h]
    · rw [hlanes.hi_eq j hj, hlanes.lo_eq k hk, h]

theorem oneAmount_of_exec16 {val : Half → Int} {conv : Int → Byte} {rnd : Bool} {i : VReg → VReg → VReg → GReg → Instr}
    (h : ∀ vd vu vv rt s, exec (i vd vu vv rt) s = vasr16 val conv rnd vd vu vv rt s) :
    OneAmount 7#32 (fun x k => elem16 x k) (fun x k => elem8 x (2 * k)) (fun x k => elem8 x (2 * k + 1)) 2
      (fun n e => conv (shr (val e) n rnd)) i :=
  oneAmount_of_laneVector (value := vasr16Value val conv rnd)
    (fun vd vu vv rt s => by rw [h, vasr16_eq, shamt16_eq_and]) (laneVector_vasr16Value val conv rnd)

theorem oneAmount_of_exec32 {val : Word → Int} {conv : Int → Half} {rnd : Bool} {i : VReg → VReg → VReg → GReg → Instr}
    (h : ∀ vd vu vv rt s, exec (i vd vu vv rt) s = vasr32 val conv rnd vd vu vv rt s) :
    OneAmount 15#32 (fun x k => elem32 x k) (fun x k => elem16 x (2 * k)) (fun x k => elem16 x (2 * k + 1)) 1
      (fun n e => conv (shr (val e) n rnd)) i :=
  oneAmount_of_laneVector (value := vasr32Value val conv rnd)
    (fun vd vu vv rt s => by rw [h, vasr32_eq, shamt32_eq_and]) (laneVector_vasr32Value val conv rnd)

/-- Settles O60: each of the 13 is the common `vasr` of its source width. -/
theorem vasrShiftAmountIsTheLowBitsOfRt : Obligations.VasrShiftAmountIsTheLowBitsOfRt := by
  refine ⟨fun x => ⟨shamt16_eq_and x, shamt16_le x, shamt32_eq_and x, shamt32_le x⟩, ?_, ?_⟩
  · simp only [vasrHalfSources, List.forall_mem_cons, List.not_mem_nil, false_imp_iff, implies_true, and_true]
    and_intros <;> exact oneAmount_of_exec16 fun _ _ _ _ _ => rfl
  · simp only [vasrWordSources, List.forall_mem_cons, List.not_mem_nil, false_imp_iff, implies_true, and_true]
    and_intros <;> exact oneAmount_of_exec32 fun _ _ _ _ _ => rfl

end Sys2Proof.Machine
end

section
/-! PROOFS. The Add group (43_alu32_add.md): the saturation `sat_32`, the sums in the spec's words, the effect of an Add, and
with them the statements of this family. -/

namespace Sys2Proof.Machine

open Sys2Proof

/-! ## The saturation (R190) -/

/-- The clamped number lies in the range of a signed word, so it is the signed value of its vector. -/
theorem toInt_sat32 (x : Int) : (sat32 x).toInt = sat32Int x := by
  rw [sat32, sat32Int, clampTo_eq_max_min (by decide)]
  exact BitVec.toInt_ofInt_eq_self (by decide) (by omega) (by omega)

theorem saturates32_iff_ne (x : Int) : saturates32 x = true ↔ sat32Int x ≠ x := decide_eq_true_iff

/-- The clamp moves exactly the numbers outside its range. -/
theorem saturates32_iff (x : Int) : saturates32 x = true ↔ x < -2147483648 ∨ 2147483647 < x := by
  rw [saturates32_iff_ne, sat32Int, clampTo_eq_max_min (by decide)]
  omega

/-- Settles O30: the signed value of `sat_32` is the clamped number. -/
theorem saturation32ClampsExactlyOutsideTheRange : Obligations.Saturation32ClampsExactlyOutsideTheRange := by
  intro x
  rw [toInt_sat32]
  exact ⟨rfl, saturates32_iff_ne x, saturates32_iff x⟩

/-- The word of `sat_32` in the three cases of the clamp. -/
theorem sat32_eq (x : Int) : sat32 x =
    if x < -2147483648 then 0x80000000#32 else if 2147483647 < x then 0x7FFFFFFF#32 else BitVec.ofInt 32 x := by
  rw [sat32, sat32Int, clampTo, apply_ite (BitVec.ofInt 32), apply_ite (BitVec.ofInt 32)]
  rfl

/-- OVF after the saturation of `x` is set when `x` lies outside the range and is left otherwise (R193). -/
theorem or_saturates32 (o : Bool) (x : Int) :
    (o || saturates32 x) = if x < -2147483648 ∨ 2147483647 < x then true else o := by
  simp only [← saturates32_iff]
  cases saturates32 x
  case false => exact Bool.or_false o
  case true => exact Bool.or_true o

/-! ## The sums (R191-R193) -/

/-- The exact sum of the signed values wraps to the sum of the words. -/
theorem ofInt_exactSum (a b : Word) : BitVec.ofInt 32 (exactSum a b) = a + b := by
  rw [exactSum, BitVec.ofInt_add, BitVec.ofInt_toInt, BitVec.ofInt_toInt]

theorem addImmValue_eq (a : Word) (s16 : Int) : addImmValue a s16 = a + BitVec.ofInt 32 s16 := by
  rw [addImmValue, applyExtension, BitVec.ofInt_add, BitVec.ofInt_toInt]

/-- The wrapping sum is that of the unsigned values. -/
theorem addRegValue_eq_ofNat (a b : Word) : addRegValue a b = BitVec.ofNat 32 (a.toNat + b.toNat) := by
  rw [addRegValue, BitVec.ofNat_add, BitVec.ofNat_toNat, BitVec.ofNat_toNat, BitVec.setWidth_eq, BitVec.setWidth_eq]

/-- The wrapping sum is that of the signed values. -/
theorem addRegValue_eq_ofInt (a b : Word) : addRegValue a b = BitVec.ofInt 32 (a.toInt + b.toInt) :=
  (ofInt_exactSum a b).symm

/-! ## The effect of an Add (R194) -/

/-- An instruction that writes `x` to `rd`, ors `c` into OVF and goes to the next word has the effect of an Add. -/
theorem addEffect_of_exec_orOvf {i : Instr} {s : State} {rd : GReg} {x : Word} {c : Bool}
    (h : exec i s = .next ((s.writeR rd x).orOvf c).advancePc) :
    ∃ t, exec i s = .next t ∧ AddEffect rd x (s.ovf || c) s t :=
  ⟨_, h, State.writeR_readR_same s rd x, rfl, rfl, fun q hq => State.writeR_readR_other s rd q x hq, fun _ => rfl,
    fun _ => rfl, rfl, fun _ => rfl⟩

/-- An instruction that writes `x` to `rd` and goes to the next word has the effect of an Add that leaves OVF. -/
theorem addEffect_of_exec {i : Instr} {s : State} {rd : GReg} {x : Word}
    (h : exec i s = .next (s.writeR rd x).advancePc) : ∃ t, exec i s = .next t ∧ AddEffect rd x s.ovf s t := by
  rw [← State.orOvf_false (s.writeR rd x)] at h
  simpa only [Bool.or_false] using addEffect_of_exec_orOvf h

/-- The effect of `addImm` (R191). -/
theorem addImm_effect (rd rs : GReg) (s16 : Int) (s : State) :
    ∃ t, exec (.addImm rd rs s16) s = .next t ∧ AddEffect rd (addImmValue (s.readR rs) s16) s.ovf s t :=
  addEffect_of_exec rfl

/-- The effect of `addReg` (R192). -/
theorem addReg_effect (rd rs rt : GReg) (s : State) :
    ∃ t, exec (.addReg rd rs rt) s = .next t ∧ AddEffect rd (addRegValue (s.readR rs) (s.readR rt)) s.ovf s t :=
  addEffect_of_exec rfl

/-- The effect of `addRegSat` (R193). -/
theorem addRegSat_effect (rd rs rt : GReg) (s : State) :
    ∃ t, exec (.addRegSat rd rs rt) s = .next t ∧
      AddEffect rd (sat32 (exactSum (s.readR rs) (s.readR rt)))
        (s.ovf || saturates32 (exactSum (s.readR rs) (s.readR rt))) s t :=
  addEffect_of_exec_orOvf (exec_addRegSat rd rs rt s)

/-- Settles O29: the word of `sat_32` and its saturation, each by the cases of the exact sum. -/
theorem addSaturatingClampsAndSetsOverflow : Obligations.AddSaturatingClampsAndSetsOverflow := by
  intro rd rs rt s x
  obtain ⟨t, ht, heffect⟩ := addRegSat_effect rd rs rt s
  rw [sat32_eq, ofInt_exactSum, or_saturates32] at heffect
  exact ⟨t, ht, heffect⟩

/-- Settles O27: the sum with the immediate is the sum with the word of the immediate. -/
theorem addImmediateWraps : Obligations.AddImmediateWraps := by
  intro rd rs s16 s
  rw [← addImmValue_eq]
  exact addImm_effect rd rs s16 s

/-- Settles O28: the wrapping sum is that of the unsigned and that of the signed values. -/
theorem addRegistersWraps : Obligations.AddRegistersWraps := by
  intro rd rs rt s
  obtain ⟨t, ht, heffect⟩ := addReg_effect rd rs rt s
  rw [← addRegValue_eq_ofNat, ← addRegValue_eq_ofInt]
  exact ⟨t, ht, heffect, heffect.1⟩

/-! ## The intrinsics (R196) -/

/-- What an Add writes is what its `Rd` holds after it. -/
theorem readR_of_addEffect {i : Instr} {rd : GReg} {x : Word} {o : Bool} {s : State}
    (h : ∃ t, exec i s = .next t ∧ AddEffect rd x o s t) : ∃ t, exec i s = .next t ∧ t.readR rd = x := by
  obtain ⟨t, ht, hrd, -⟩ := h
  exact ⟨t, ht, hrd⟩

/-- Settles O32: each intrinsic is the value that its instruction writes. -/
theorem intrinsicsReturnTheDestinationRegister : Obligations.IntrinsicsReturnTheDestinationRegister := fun rd rs rt s16 s =>
  ⟨readR_of_addEffect (addImm_effect rd rs s16 s), readR_of_addEffect (addReg_effect rd rs rt s),
    readR_of_addEffect (addRegSat_effect rd rs rt s)⟩

end Sys2Proof.Machine
end

section
/-! PROOFS. Exceptions and the stops of a step (60_exceptions.md): every instruction completes, a step stops exactly as its fetch
does, the reasons of a fetch to stop, and with them the statements of this family. -/

namespace Sys2Proof

/-- The two reasons for which a word selects no row (R72, R84). -/
theorem decodeRow_error {w : Word} {e : DecodeError} (h : decodeRow w = .error e) :
    (e = .parseNotSingle w ∧ fieldParse w ≠ 3#2) ∨ (e = .noSuchEncoding w ∧ fieldParse w = 3#2) := by
  simp only [decodeRow] at h
  split at h
  case isTrue hp =>
    split at h
    · cases h
    · cases h; exact .inr ⟨rfl, hp⟩
  case isFalse hp => cases h; exact .inl ⟨rfl, hp⟩

end Sys2Proof

namespace Sys2Proof.Machine

open Sys2Proof

/-! ## Instructions complete (R201) -/

/-- Settles O42: the meaning of every instruction is a next state of one of the four shapes. -/
theorem noInstructionRaisesAnException : Obligations.NoInstructionRaisesAnException := by
  intro i s
  obtain ⟨t, ht, hs⟩ := exec_shape i s
  exact ⟨t, ht, hs.sameText, hs.aligned_pc⟩

/-! ## A step stops as its fetch does (R202) -/

/-- The cases of a step: the state is final, or the outcome is of the kind of the fetch's, as every instruction completes. -/
theorem step_cases (s : State) :
    (s.final = true ∧ step s = .next s) ∨
      (s.final = false ∧
        ((∃ i t, fetchInstr s = .next i ∧ step s = .next t) ∨ (∃ f, fetchInstr s = .fault f ∧ step s = .fault f) ∨
          ∃ r, fetchInstr s = .refused r ∧ step s = .refused r)) := by
  cases hf : s.final with
  | true => exact .inl ⟨rfl, if_pos hf⟩
  | false =>
    refine .inr ⟨rfl, ?_⟩
    cases hi : fetchInstr s with
    | next i =>
      obtain ⟨t, ht, -⟩ := exec_shape i s
      exact .inl ⟨i, t, rfl, by simp [step, hf, hi, ht]⟩
    | fault f => exact .inr (.inl ⟨f, rfl, by simp [step, hf, hi]⟩)
    | refused r => exact .inr (.inr ⟨r, rfl, by simp [step, hf, hi]⟩)

theorem step_eq_fault_iff {s : State} {f : Fault} : step s = .fault f ↔ s.final = false ∧ fetchInstr s = .fault f := by
  obtain ⟨hf, hs⟩ | ⟨hf, ⟨i, t, hi, hs⟩ | ⟨g, hi, hs⟩ | ⟨r, hi, hs⟩⟩ := step_cases s
  · simp [hf, hs]
  all_goals simp [hf, hi, hs]

theorem step_eq_refused_iff {s : State} {r : Refusal} :
    step s = .refused r ↔ s.final = false ∧ fetchInstr s = .refused r := by
  obtain ⟨hf, hs⟩ | ⟨hf, ⟨i, t, hi, hs⟩ | ⟨f, hi, hs⟩ | ⟨q, hi, hs⟩⟩ := step_cases s
  · simp [hf, hs]
  all_goals simp [hf, hi, hs]

theorem exists_step_eq_next_iff {s : State} :
    (∃ t, step s = .next t) ↔ s.final = true ∨ ∃ i, fetchInstr s = .next i := by
  obtain ⟨hf, hs⟩ | ⟨hf, ⟨i, t, hi, hs⟩ | ⟨f, hi, hs⟩ | ⟨r, hi, hs⟩⟩ := step_cases s
  · simp [hf, hs]
  all_goals simp [hf, hi, hs]

/-! ## What the stop of a step depends on -/

section
variable {s s' : State} (hpc : s.pc = s'.pc) (hparams : s.params = s'.params)
include hpc hparams

theorem final_congr : s.final = s'.final := by rw [State.final, State.final, hpc, hparams]

/-- A fetch reads pc and the parameters alone (R51, R84). -/
theorem fetchInstr_congr : fetchInstr s = fetchInstr s' := by rw [fetchInstr, fetchInstr, hpc, hparams]

end

/-- Settles O50: whether a state is final and what its fetch gives depend on pc and the parameters alone. -/
theorem stopsDependOnPcAndParametersAlone : Obligations.StopsDependOnPcAndParametersAlone := by
  intro s s' hpc hparams
  have hfinal := final_congr hpc hparams
  have hfetch := fetchInstr_congr hpc hparams
  refine ⟨fun f => ?_, fun r => ?_, ?_, fun hstop => ?_⟩
  · rw [step_eq_fault_iff, step_eq_fault_iff, hfinal, hfetch]
  · rw [step_eq_refused_iff, step_eq_refused_iff, hfinal, hfetch]
  · rw [exists_step_eq_next_iff, exists_step_eq_next_iff, hfinal, hfetch]
  · rw [exists_step_eq_next_iff, not_or, Bool.not_eq_true] at hstop
    exact hstop.1

/-! ## The reasons of a fetch to stop (R203) -/

/-- A fetch faults where the text holds no word at pc, and nowhere else (R51). -/
theorem fetchInstr_eq_fault_iff {s : State} {f : Fault} :
    fetchInstr s = .fault f ↔ s.params.text.fetch s.pc = none ∧ f = .fetchOutsideText s.pc := by
  cases hw : s.params.text.fetch s.pc with
  | none => simp [fetchInstr, hw, eq_comm]
  | some w =>
    cases hr : decodeRow w with
    | error e => cases e <;> simp [fetchInstr, hw, hr]
    | ok q => cases ha : admits s.params q <;> simp [fetchInstr, hw, hr, ha]

/-- A fetch refuses for one of the three decode reasons (R72, R84). -/
theorem fetchInstr_refused {s : State} {r : Refusal} (h : fetchInstr s = .refused r) :
    ∃ w, s.params.text.fetch s.pc = some w ∧
      ((r = .parseNotSingle w ∧ fieldParse w ≠ 3#2) ∨ (r = .noSuchEncoding w ∧ fieldParse w = 3#2) ∨
        (r = .unsourcedEncoding w ∧ s.params.admitUnsourced = false ∧ ∃ i, decode w = .ok i)) := by
  cases hw : s.params.text.fetch s.pc with
  | none => simp [fetchInstr, hw] at h
  | some w =>
    refine ⟨w, rfl, ?_⟩
    cases hr : decodeRow w with
    | error e =>
      obtain ⟨rfl, hp⟩ | ⟨rfl, hp⟩ := decodeRow_error hr
      · simp only [fetchInstr, hw, hr] at h
        cases h
        exact .inl ⟨rfl, hp⟩
      · simp only [fetchInstr, hw, hr] at h
        cases h
        exact .inr (.inl ⟨rfl, hp⟩)
    | ok q =>
      simp only [fetchInstr, hw, hr] at h
      split at h
      case isTrue => cases h
      case isFalse hadm =>
        cases h
        rw [admits_iff, not_or, Bool.not_eq_true] at hadm
        exact .inr (.inr ⟨rfl, hadm.2, q.build w, decode_of_decodeRow_ok hr⟩)

/-- Settles O52: a step stops as its fetch does. -/
theorem stepsStopOnlyAsTheChecksSay : Obligations.StepsStopOnlyAsTheChecksSay := by
  refine fun s => ⟨fun f => ?_, fun r h => ?_⟩
  · rw [step_eq_fault_iff, final_eq_false_iff, fetchInstr_eq_fault_iff]
  · obtain ⟨hfinal, hfetch⟩ := step_eq_refused_iff.1 h
    exact ⟨final_eq_false_iff.1 hfinal, fetchInstr_refused hfetch⟩

end Sys2Proof.Machine
end

section
/-! PROOFS. The launch, the end of a run and the host's placed instruction (70_reset_and_hazards.md): what a launch answers, what
a run from a final state reaches, what placing an instruction sets and leaves unchanged, and with them the statements of this
family. -/

namespace Sys2Proof.Machine

open Sys2Proof

/-! ## The launch (R221) -/

/-- The cases of a launch: the launch state when both addresses are multiples of 4, else a refusal. -/
theorem launch_cases (l : Launch) :
    ((l.entryPc.toNat % 4 = 0 ∧ l.haltPc.toNat % 4 = 0) ∧ launch l = .next l.state) ∨
      (¬ (l.entryPc.toNat % 4 = 0 ∧ l.haltPc.toNat % 4 = 0) ∧ launch l = .refused .misalignedEntry) := by
  simp only [launch, ← aligned_iff, ← Bool.and_eq_true]
  split
  case isTrue h => exact .inl ⟨h, rfl⟩
  case isFalse h => exact .inr ⟨h, rfl⟩

/-- Settles O53, by the cases of a launch. -/
theorem launchRefusesMisalignedAddresses : Obligations.LaunchRefusesMisalignedAddresses := by
  intro l
  obtain ⟨ha, h⟩ | ⟨ha, h⟩ := launch_cases l
  · simp [h, ha.1, ha.2]
  · exact ⟨iff_of_true h (not_and_or.1 ha), iff_of_false (by simp [h]) ha⟩

theorem length_fitVec (n : Nat) (x : VecVal) : (fitVec n x).length = n := by simp [fitVec]

/-- A vector register of a launch has `VLEN_BITS` bits, whatever the host lists for it (R33, log 22). -/
theorem length_launchedVector (n : Nat) (l : List (VReg × VecVal)) (q : VReg) : (launchedVector n l q).length = n := by
  unfold launchedVector
  split
  · exact length_fitVec n _
  · exact List.length_replicate

/-- Settles O56: the addresses are those the launch checked, and what it loads has the form of the invariant. -/
theorem launchesSatisfyTheInvariant : Obligations.LaunchesSatisfyTheInvariant := by
  intro l s hwf h
  obtain ⟨rfl, hentry, hhalt⟩ := launch_next h
  have hvlen : 0 < l.vlenWords := of_decide_eq_true (Bool.and_eq_true_iff.1 hwf).1
  have hlen (q : VReg) : (l.state.readV q).length = l.vlenWords := by rw [l.state_readV, length_launchedVector]
  rw [State.Inv, l.state_pc, l.state_params]
  exact ⟨hentry, hhalt, wf_loadText l.text, hvlen, hlen⟩

/-! ## The end of a run (R226) -/

theorem final_iff {s : State} : s.final = true ↔ s.pc = s.params.haltPc := beq_iff_eq

/-- A final state answers itself (log 9). -/
theorem step_of_final {s : State} (h : s.final = true) : step s = .next s := if_pos h

/-- Settles O51, by induction on the number of steps. -/
theorem finalStatesStay : Obligations.FinalStatesStay := by
  intro s hs k
  have hstep : step s = .next s := step_of_final (final_iff.2 hs)
  induction k with
  | zero => rfl
  | succ k ih => exact reaches_succ.2 ⟨s, hstep, ih⟩

/-! ## The placed instruction (R227, log 8) -/

/-- A word given by its value is the word that is placed. -/
theorem State.withFetchWord_toNat (s : State) (w : Word) : s.withFetchWord 32 w.toNat = s.placeInstruction w := by
  rw [State.withFetchWord, Nat.mod_eq_of_lt w.isLt, BitVec.ofNat_toNat, BitVec.setWidth_eq]

section
variable (s : State) (w : Word)

@[simp] theorem State.placeInstruction_r : (s.placeInstruction w).r = s.r := rfl
@[simp] theorem State.placeInstruction_p : (s.placeInstruction w).p = s.p := rfl
@[simp] theorem State.placeInstruction_v : (s.placeInstruction w).v = s.v := rfl
@[simp] theorem State.placeInstruction_ovf : (s.placeInstruction w).ovf = s.ovf := rfl
@[simp] theorem State.placeInstruction_pc : (s.placeInstruction w).pc = s.pc := rfl
@[simp] theorem State.placeInstruction_text : (s.placeInstruction w).params.text = s.params.text.writeWord s.pc w := rfl
@[simp] theorem State.placeInstruction_haltPc :
    (s.placeInstruction w).params.haltPc = if s.final then s.pc + 4#32 else s.params.haltPc := rfl
@[simp] theorem State.placeInstruction_admitUnsourced :
    (s.placeInstruction w).params.admitUnsourced = (s.params.admitUnsourced || isUnsourced w) := rfl

/-- Where an instruction is placed is not `HALT_PC`, which moves to the next word if it was `pc`. -/
theorem State.placeInstruction_pc_ne_haltPc : (s.placeInstruction w).pc ≠ (s.placeInstruction w).params.haltPc := by
  rw [placeInstruction_pc, placeInstruction_haltPc]
  split
  case isTrue => bv_omega
  case isFalse h => exact fun e => h (final_iff.2 e)

/-- The switch is on if the placed word's row needs it (R84). -/
theorem State.placeInstruction_admits :
    (s.placeInstruction w).params.admitUnsourced = true ∨ isUnsourced w = false := by
  rw [placeInstruction_admitUnsourced]
  cases isUnsourced w with
  | false => exact .inr rfl
  | true => exact .inl (Bool.or_true _)

end

/-- A word placed at an aligned `pc` is the word fetched there. -/
theorem State.placeInstruction_fetch {s : State} (w : Word) (ha : aligned s.pc = true) :
    (s.placeInstruction w).params.text.fetch (s.placeInstruction w).pc = some w := by
  rw [placeInstruction_text, placeInstruction_pc, Memory.fetch_writeWord _ _ _ ha]

/-- Settles O58: the placed word is not at `HALT_PC`, is fetched, and its row is admitted, so the step runs it (R86). -/
theorem placedInstructionRunsNext : Obligations.PlacedInstructionRunsNext := by
  intro s w i ha hi
  rw [s.withFetchWord_toNat w]
  have hstep : step (s.placeInstruction w) = exec i (s.placeInstruction w) :=
    stepRunsTheDecodedInstruction _ w i (s.placeInstruction_pc_ne_haltPc w) (State.placeInstruction_fetch w ha) hi
      (s.placeInstruction_admits w)
  exact ⟨hstep, s.placeInstruction_r w, s.placeInstruction_p w, s.placeInstruction_v w, s.placeInstruction_ovf w,
    s.placeInstruction_pc w⟩

end Sys2Proof.Machine
end

section
/-! PROOFS. The values of the reset state (10_state.md section 9): reset is the blank state of the default launch, so its
registers read as the launch laws say, and its text is empty. -/

namespace Sys2Proof.Machine

open Sys2Proof

/-- Reset is the state of the default launch (logs 1 to 5) before any register value is given. -/
theorem State.reset_eq_blank : State.reset = Launch.default.blank := rfl

theorem State.reset_readR (q : GReg) : State.reset.readR q = 0#32 := by
  rw [reset_eq_blank, Launch.blank_readR]

theorem State.reset_readP (q : PReg) : State.reset.readP q = 0#8 := by
  rw [reset_eq_blank, Launch.blank_readP]

/-- A vector register at reset is zeros of the default `VLEN_BITS` (R33, log 4). -/
theorem State.reset_readV (q : VReg) : State.reset.readV q = List.replicate Config.defaultVlenWords 0#32 := by
  rw [reset_eq_blank, Launch.blank_readV, Launch.default]

@[simp] theorem Memory.read_nil (a : Nat) : Memory.read [] a = none := rfl

/-- Nothing is placed before a launch, so no address of the text has a byte (R51). -/
theorem State.reset_textByte (a : Nat) : State.reset.textByte a = none := Memory.read_nil a

/-- Settles O47: the registers and the text by the laws of the reset state, the other fields by the model's parameters. -/
theorem resetValues : Obligations.ResetValues := by
  have hovf : State.reset.ovf = false := rfl
  have hpc : State.reset.pc = 0#32 := rfl
  have hhalt : State.reset.params.haltPc = 0xFFFFFFFC#32 := rfl
  have hvlen : 32 * State.reset.params.vlenWords = 1024 := rfl
  have hadmit : State.reset.params.admitUnsourced = false := rfl
  exact ⟨State.reset_readR, State.reset_readP, State.reset_readV, hovf, hpc, hhalt, hvlen, hadmit, State.reset_textByte⟩

end Sys2Proof.Machine
end
